-- ==== Sys2Proof/Word.lean ====
section
/-! DEFINITION. The word type of the codec: the byte (20_memory.md rule R30). -/

namespace Sys2Proof

/-- The unit of everything the codec moves: 8 bits, an unsigned value 0 to 255 (R30). -/
abbrev Byte := BitVec 8

end Sys2Proof
end

