-- ==== Sys2Proof/Config.lean ====
section
/-! DEFINITION. What the spec leaves to the implementation: the capacity `RXCAP` of the receive buffer (00_scope.md
rule R6, decision D4). The constants the spec fixes (R5) stand in Machine/Constants.lean. -/

namespace Sys2Proof

/-- A capacity of the receive buffer: "a natural number or infinity ... with `RXCAP >= MAX_FRAME` (258) required" (R6).
A bounded capacity is written as what it has beyond `MAX_FRAME`, so that no value of the type breaks the bound. -/
inductive RxCap where
  /-- `RXCAP` = infinity, the document's unbounded buffer. -/
  | infinite
  /-- `RXCAP` = `MAX_FRAME + extra`. -/
  | bounded (extra : Nat)
  deriving DecidableEq, Repr, Inhabited

/-- `RXCAP` of this codec: open in the spec (R6, D4), so nothing here says which value it is. DESIGN CHOICE, log 4. -/
opaque Config.rxcap : RxCap

end Sys2Proof
end

