-- ==== Sys2Proof/Syntax.lean ====
section
/-! DEFINITION. The instructions (one constructor per row of spec/opcode_table.json), the named commands (30_encoding.md
rule R55) and what the host presents to the codec at one turn (R65, R37). -/

namespace Sys2Proof

/-- The 26 named COMMAND values of rule R55. -/
inductive Command where
  | outputCtr
  | deviceTime
  | tapTime
  | delayTime
  | modbusAddress
  | outputState
  | inputState
  | cycleTime
  | autoEnable
  | auto1
  | auto2
  | auto3
  | auto4
  | auto5
  | auto6
  | auto7
  | auto8
  | auto9
  | auto10
  | auto11
  | auto12
  | auto13
  | auto14
  | auto15
  | auto16
  | typeResponse
  deriving DecidableEq, Repr

/-- One constructor per row of spec/opcode_table.json.

Format `OP` (R65): the eight operations with the operands the rule names.
Format `TXFRAME` (R68): a frame the encoder emits, by the fields its encoder does not compute.
Format `RXFRAME` (R68): a received frame of the row's command, by its LENGTH, TYPE, PAYLOAD and CHECKSUM fields as they
stand on the wire; they need not agree with one another (WellFormed.lean says when they do). -/
inductive Instr where
  /-- `CSUM(b)` (R80). -/
  | csum (b : List Byte)
  /-- `ENC_READ(command, payload)` (R90). -/
  | encRead (command : Byte) (payload : List Byte)
  /-- `ENC_RELAY(command, switchSet, state)` (R91). -/
  | encRelay (command : Byte) (switchSet : List Nat) (state : Bool)
  /-- `RX_PUSH(bs)` (R110). -/
  | rxPush (bs : List Byte)
  /-- `PARSE()` (R111). -/
  | parse
  /-- `DRAIN()` (R112). -/
  | drain
  /-- `PDEC(command, payload)` (R140). -/
  | pdec (command : Byte) (payload : List Byte)
  /-- `RESET()` (R160). -/
  | reset
  /-- The READ frame (R58, R90). -/
  | frameRead (command : Byte) (payload : List Byte)
  /-- The RELAY frame (R59, R91): flag as a Boolean, the two mask bytes. -/
  | frameRelay (command : Byte) (state : Bool) (mask0 mask1 : Byte)
  | rxOutputCtr (length type : Byte) (payload : List Byte) (checksum : Byte)
  | rxDeviceTime (length type : Byte) (payload : List Byte) (checksum : Byte)
  | rxTapTime (length type : Byte) (payload : List Byte) (checksum : Byte)
  | rxDelayTime (length type : Byte) (payload : List Byte) (checksum : Byte)
  | rxModbusAddress (length type : Byte) (payload : List Byte) (checksum : Byte)
  | rxOutputState (length type : Byte) (payload : List Byte) (checksum : Byte)
  | rxInputState (length type : Byte) (payload : List Byte) (checksum : Byte)
  | rxCycleTime (length type : Byte) (payload : List Byte) (checksum : Byte)
  | rxAutoEnable (length type : Byte) (payload : List Byte) (checksum : Byte)
  | rxAuto1 (length type : Byte) (payload : List Byte) (checksum : Byte)
  | rxAuto2 (length type : Byte) (payload : List Byte) (checksum : Byte)
  | rxAuto3 (length type : Byte) (payload : List Byte) (checksum : Byte)
  | rxAuto4 (length type : Byte) (payload : List Byte) (checksum : Byte)
  | rxAuto5 (length type : Byte) (payload : List Byte) (checksum : Byte)
  | rxAuto6 (length type : Byte) (payload : List Byte) (checksum : Byte)
  | rxAuto7 (length type : Byte) (payload : List Byte) (checksum : Byte)
  | rxAuto8 (length type : Byte) (payload : List Byte) (checksum : Byte)
  | rxAuto9 (length type : Byte) (payload : List Byte) (checksum : Byte)
  | rxAuto10 (length type : Byte) (payload : List Byte) (checksum : Byte)
  | rxAuto11 (length type : Byte) (payload : List Byte) (checksum : Byte)
  | rxAuto12 (length type : Byte) (payload : List Byte) (checksum : Byte)
  | rxAuto13 (length type : Byte) (payload : List Byte) (checksum : Byte)
  | rxAuto14 (length type : Byte) (payload : List Byte) (checksum : Byte)
  | rxAuto15 (length type : Byte) (payload : List Byte) (checksum : Byte)
  | rxAuto16 (length type : Byte) (payload : List Byte) (checksum : Byte)
  | rxTypeResponse (length type : Byte) (payload : List Byte) (checksum : Byte)
  /-- The catch-all row: a received frame whose COMMAND byte is none of the 26 (R152). -/
  | rxUnnamed (length type command : Byte) (payload : List Byte) (checksum : Byte)
  deriving DecidableEq, Repr

/-- The operation select and the operand port (R65: "a 3-bit select `OP[2:0]`, presented with the operands"). An operation
reads the operands its row names and no other. DESIGN CHOICE, log 1: the spec gives the operands no bit layout. -/
structure OpRequest where
  /-- `OP[2:0]`. -/
  op : BitVec 3
  /-- the `command` operand of `ENC_READ`, `ENC_RELAY`, `PDEC` -/
  command : Byte := 0
  /-- the byte sequence operand: `b`, `payload` or `bs` -/
  bytes : List Byte := []
  /-- the `switchSet` operand of `ENC_RELAY` -/
  switchSet : List Nat := []
  /-- the `state` operand of `ENC_RELAY` -/
  state : Bool := false
  deriving DecidableEq, Repr

/-- One request of the host, in one of the three formats of rule R68. -/
inductive Request where
  /-- Format `OP`. -/
  | op (r : OpRequest)
  /-- Format `TXFRAME`: the words of a frame the encoder is to emit. Log 6. -/
  | tx (frame : List Byte)
  /-- Format `RXFRAME`: received bytes, delivered and decoded. Log 5. -/
  | rx (bytes : List Byte)
  deriving DecidableEq, Repr

/-- What the host presents at one turn: nothing, one request, or two at once (which R37 and D28 give no meaning). -/
inductive Turn where
  | idle
  | request (r : Request)
  | simultaneous (first second : Request)
  deriving DecidableEq, Repr

/-- Why words are no instruction of the codec. -/
inductive DecodeError where
  /-- fewer bytes than HEAD, LENGTH, TYPE, COMMAND and CHECKSUM take -/
  | frameTruncated
  /-- the first two bytes are not `6A A6` (R53) -/
  | badHead
  /-- a `TXFRAME` word whose TYPE the encoder never writes (R54) -/
  | typeNotWritten (type : Byte)
  /-- a `TXFRAME` word that no encoder call returns: its LENGTH, flag or CHECKSUM is not what the encoder computes (R95) -/
  | notEmitted
  deriving DecidableEq, Repr

end Sys2Proof
end

