-- ==== Sys2Proof/Machine/Constants.lean ====
section
/-! DEFINITION. The constants the spec fixes, each under its name in 00_scope.md rule R5, and the COMMAND byte values of
30_encoding.md rule R55. The spec calls the document's literals unaudited (D30, log 13): the definitions of the model write each of
them here and nowhere else. -/

namespace Sys2Proof

/-- `HEAD0`: frame offset 0 (R5, R53). -/
def Config.head0 : Byte := 0x6A
/-- `HEAD1`: frame offset 1 (R5, R53). -/
def Config.head1 : Byte := 0xA6
/-- `CK_OFFSET` (R5, R80). -/
def Config.ckOffset : Nat := 16
/-- `CK_MOD` (R5, R80). -/
def Config.ckMod : Nat := 256
/-- Where the streaming form of the checksum starts: `(-CK_OFFSET) mod CK_MOD`, which is `0xF0` (R82). -/
def Config.ckInit : Byte := BitVec.ofInt 8 ((-(Config.ckOffset : Int)) % (Config.ckMod : Int))
/-- `TYPE_WRITE` (R54). -/
def Config.typeWrite : Byte := 0x01
/-- `TYPE_READ` (R54). -/
def Config.typeRead : Byte := 0xFE
/-- `TYPE_RESP`, written by no encoder and read by no decoder (R54). -/
def Config.typeResp : Byte := 0xFF
/-- `LEN_OVERHEAD`: LENGTH minus the payload length (R51). -/
def Config.lenOverhead : Nat := 3
/-- `FRAME_OVERHEAD`: total frame length minus LENGTH (R52). -/
def Config.frameOverhead : Nat := 3
/-- `MAX_PAYLOAD` (R5, R56). -/
def Config.maxPayload : Nat := 252
/-- `MAX_FRAME` (R5, R52). -/
def Config.maxFrame : Nat := 258
/-- `MIN_FRAME` (R5, R52). -/
def Config.minFrame : Nat := 6
/-- `NSWITCH`: switches 1 to 16 (R5). -/
def Config.nSwitch : Nat := 16
/-- `YEAR_BASE` (R5, R143). -/
def Config.yearBase : Nat := 2018
/-- `STATE_LEN`: payload length of OUTPUT_STATE and INPUT_STATE responses (R5, R141, R142). -/
def Config.stateLen : Nat := 2
/-- `CLOCK_LEN`: payload length of a DEVICE_TIME response (R5, R143). -/
def Config.clockLen : Nat := 6
/-- How many bytes must be buffered before the head is examined: HEAD and LENGTH (R111 step 1, D14). -/
def Config.headerLen : Nat := 3

/-- The COMMAND byte of each named command (R55). -/
def Command.byte : Command → Byte
  | .outputCtr => 0x01
  | .deviceTime => 0x02
  | .tapTime => 0x03
  | .delayTime => 0x04
  | .modbusAddress => 0x05
  | .outputState => 0x06
  | .inputState => 0x07
  | .cycleTime => 0x08
  | .autoEnable => 0x0F
  | .auto1 => 0x10
  | .auto2 => 0x11
  | .auto3 => 0x12
  | .auto4 => 0x13
  | .auto5 => 0x14
  | .auto6 => 0x15
  | .auto7 => 0x16
  | .auto8 => 0x17
  | .auto9 => 0x18
  | .auto10 => 0x19
  | .auto11 => 0x1A
  | .auto12 => 0x1B
  | .auto13 => 0x1C
  | .auto14 => 0x1D
  | .auto15 => 0x1E
  | .auto16 => 0x1F
  | .typeResponse => 0xFF

/-- The enumeration of R55, in the order of its table. -/
def commandList : List Command :=
  [.outputCtr, .deviceTime, .tapTime, .delayTime, .modbusAddress, .outputState, .inputState, .cycleTime, .autoEnable,
   .auto1, .auto2, .auto3, .auto4, .auto5, .auto6, .auto7, .auto8, .auto9, .auto10, .auto11, .auto12, .auto13, .auto14,
   .auto15, .auto16, .typeResponse]

/-- The named command of a COMMAND byte, `none` for the 230 unnamed bytes (R55, R152). -/
def commandOfByte (b : Byte) : Option Command :=
  commandList.find? (fun c => c.byte == b)

end Sys2Proof
end

