-- ==== Sys2Proof/Machine/Operands.lean ====
section
/-! DEFINITION. Operand assembly and the pure functions of bytes: the checksum (40_checksum.md), the frames the encoder
builds (30_encoding.md rules R57 to R61, 41_encode.md) and the fields the decoder takes apart (R62). -/

namespace Sys2Proof

/-- `sum(s)`: the sum of the byte values as an unbounded natural number (00_scope.md section 5). -/
def byteSum (bs : List Byte) : Nat := (bs.map BitVec.toNat).sum

/-- `CHECKSUM(b) = (sum(b) - 16) mod 256`, the residue in 0 to 255 also of a negative difference (R80, R81, D7, log 12). -/
def checksum (bs : List Byte) : Byte :=
  BitVec.ofInt 8 (((byteSum bs : Int) - (Config.ckOffset : Int)) % (Config.ckMod : Int))

/-- The 8-bit accumulator form of the checksum (R82): start at `F0` (`Config.ckInit`), add each byte, the carry
discarded. -/
def checksumStream (bs : List Byte) : Byte :=
  bs.foldl (fun acc x => acc + x) Config.ckInit

/-- `s[i]`, used only where `i` is inside `s` (log 14). -/
def byteAt (s : List Byte) (i : Nat) : Byte := s.getD i 0

/-- `s[i ..< j]`: the bytes at indices `i` to `j-1` (00_scope.md section 5). -/
def sliceBytes (s : List Byte) (i j : Nat) : List Byte := (s.take j).drop i

/-- LENGTH of a frame with this payload: `len(payload) + 3` as one byte (R51, R61). -/
def lengthByte (payload : List Byte) : Byte :=
  BitVec.ofNat 8 (payload.length + Config.lenOverhead)

/-- HEAD, LENGTH, TYPE, COMMAND and PAYLOAD as they stand on the wire (R50). -/
def frameBody (length type command : Byte) (payload : List Byte) : List Byte :=
  [Config.head0, Config.head1, length, type, command] ++ payload

/-- A received frame's bytes, each field as given (R50). -/
def wireFrame (length type command : Byte) (payload : List Byte) (ck : Byte) : List Byte :=
  frameBody length type command payload ++ [ck]

/-- The frame of a TYPE, a COMMAND and a PAYLOAD: LENGTH by R51, CHECKSUM by R57. -/
def frameBytes (type command : Byte) (payload : List Byte) : List Byte :=
  wireFrame (lengthByte payload) type command payload
    (checksum (frameBody (lengthByte payload) type command payload))

/-- The flag byte of a RELAY frame: `state = true` gives `0x01`, `false` gives `0x00` (R59, D10, log 10). -/
def flagByte (state : Bool) : Byte := if state then 0x01 else 0x00

/-- One mask byte of a RELAY frame: switch `n` sets bit `n - base` when `base <= n <= base + 7`, any other index sets none
(R61, R91). -/
def maskByte (base : Nat) (switchSet : List Nat) : Byte :=
  switchSet.foldl (fun m n => if base ≤ n ∧ n ≤ base + 7 then m ||| (1#8 <<< (n - base)) else m) 0

/-- `mask0`: switches 1 to 8 (R61). -/
def relayMask0 (switchSet : List Nat) : Byte := maskByte 1 switchSet

/-- `mask1`: switches 9 to 16 (R61). -/
def relayMask1 (switchSet : List Nat) : Byte := maskByte 9 switchSet

/-- The RELAY frame's payload: flag, mask byte 0, mask byte 1 (R59, D10, log 10). -/
def relayPayload (switchSet : List Nat) (state : Bool) : List Byte :=
  [flagByte state, relayMask0 switchSet, relayMask1 switchSet]

/-- LENGTH of every RELAY frame: that of its 3-byte payload, `0x06` (R59, R51). -/
def relayLength : Byte := lengthByte (relayPayload [] false)

/-- The READ frame (R58). -/
def readFrame (command : Byte) (payload : List Byte) : List Byte :=
  frameBytes Config.typeRead command payload

/-- The RELAY frame (R59). -/
def relayFrame (command : Byte) (switchSet : List Nat) (state : Bool) : List Byte :=
  frameBytes Config.typeWrite command (relayPayload switchSet state)

/-- The 16-bit switch map of two payload bytes: `V[7:0] = b0`, `V[15:8] = b1` (R62, R154). -/
def switchBits (b0 b1 : Byte) : BitVec 16 := b1 ++ b0

/-- Switch `i` (1 to 16) of a switch map: bit `i - 1` (R154). -/
def switchOn (v : BitVec 16) (i : Nat) : Bool := v.getLsbD (i - 1)

/-- The switches that two mask bytes name, in rising order: the switch set of which they are the masks (R61). -/
def maskSwitches (mask0 mask1 : Byte) : List Nat :=
  ((List.range Config.nSwitch).map (· + 1)).filter (switchOn (switchBits mask0 mask1))

/-- `year = payload[0] + 2018`, 12 bits, no wrap (R143, R153). -/
def clockYear (raw : Byte) : BitVec 12 := raw.setWidth 12 + BitVec.ofNat 12 Config.yearBase

end Sys2Proof
end

