-- ==== Sys2Proof/WellFormed.lean ====
section
/-! DEFINITION. Which instructions are well-formed: a frame's fields agree with one another (30_encoding.md rule R52) and an
unnamed frame's COMMAND is unnamed (R152). Every operand of an operation is well-formed: what an operation refuses it
refuses by an outcome. -/

namespace Sys2Proof

/-- The fields make a well-formed frame (R52): LENGTH is `len(PAYLOAD) + 3`, at most 255, and CHECKSUM is the checksum of
the bytes before it. -/
def wellFormedFields (length type command : Byte) (payload : List Byte) (ck : Byte) : Bool :=
  decide (payload.length ≤ Config.maxPayload) && (length == lengthByte payload) &&
    (ck == checksum (frameBody length type command payload))

/-- The instruction is one the spec gives words to. -/
def Instr.wf : Instr → Bool
  | .csum _ => true
  | .encRead _ _ => true
  | .encRelay _ _ _ => true
  | .rxPush _ => true
  | .parse => true
  | .drain => true
  | .pdec _ _ => true
  | .reset => true
  | .frameRead _ p => decide (p.length ≤ Config.maxPayload)
  | .frameRelay _ _ _ _ => true
  | .rxOutputCtr l t p k => wellFormedFields l t Command.outputCtr.byte p k
  | .rxDeviceTime l t p k => wellFormedFields l t Command.deviceTime.byte p k
  | .rxTapTime l t p k => wellFormedFields l t Command.tapTime.byte p k
  | .rxDelayTime l t p k => wellFormedFields l t Command.delayTime.byte p k
  | .rxModbusAddress l t p k => wellFormedFields l t Command.modbusAddress.byte p k
  | .rxOutputState l t p k => wellFormedFields l t Command.outputState.byte p k
  | .rxInputState l t p k => wellFormedFields l t Command.inputState.byte p k
  | .rxCycleTime l t p k => wellFormedFields l t Command.cycleTime.byte p k
  | .rxAutoEnable l t p k => wellFormedFields l t Command.autoEnable.byte p k
  | .rxAuto1 l t p k => wellFormedFields l t Command.auto1.byte p k
  | .rxAuto2 l t p k => wellFormedFields l t Command.auto2.byte p k
  | .rxAuto3 l t p k => wellFormedFields l t Command.auto3.byte p k
  | .rxAuto4 l t p k => wellFormedFields l t Command.auto4.byte p k
  | .rxAuto5 l t p k => wellFormedFields l t Command.auto5.byte p k
  | .rxAuto6 l t p k => wellFormedFields l t Command.auto6.byte p k
  | .rxAuto7 l t p k => wellFormedFields l t Command.auto7.byte p k
  | .rxAuto8 l t p k => wellFormedFields l t Command.auto8.byte p k
  | .rxAuto9 l t p k => wellFormedFields l t Command.auto9.byte p k
  | .rxAuto10 l t p k => wellFormedFields l t Command.auto10.byte p k
  | .rxAuto11 l t p k => wellFormedFields l t Command.auto11.byte p k
  | .rxAuto12 l t p k => wellFormedFields l t Command.auto12.byte p k
  | .rxAuto13 l t p k => wellFormedFields l t Command.auto13.byte p k
  | .rxAuto14 l t p k => wellFormedFields l t Command.auto14.byte p k
  | .rxAuto15 l t p k => wellFormedFields l t Command.auto15.byte p k
  | .rxAuto16 l t p k => wellFormedFields l t Command.auto16.byte p k
  | .rxTypeResponse l t p k => wellFormedFields l t Command.typeResponse.byte p k
  | .rxUnnamed l t c p k => (commandOfByte c).isNone && wellFormedFields l t c p k

end Sys2Proof
end

