-- ==== Sys2Proof/Decode.lean ====
section
/-! DEFINITION. From what the host presents to an instruction and back: the operation select (30_encoding.md rule R65) and the
two frame formats of the opcode map (R68). `decode` is total and refuses by name. -/

namespace Sys2Proof

/-- The operation a select names, with the operands its row of R65 names. All eight values are assigned. -/
def decodeOp (r : OpRequest) : Instr :=
  match r.op.toNat with
  | 0 => .csum r.bytes
  | 1 => .encRead r.command r.bytes
  | 2 => .encRelay r.command r.switchSet r.state
  | 3 => .rxPush r.bytes
  | 4 => .parse
  | 5 => .drain
  | 6 => .pdec r.command r.bytes
  | _ => .reset

/-- The `RXFRAME` row of a COMMAND byte: the named row, or the catch-all when no named row matches (R68). LENGTH and TYPE
are free: the rows classify a frame, they do not validate it. -/
def rxInstr (length type command : Byte) (payload : List Byte) (ck : Byte) : Instr :=
  match commandOfByte command with
  | some .outputCtr => .rxOutputCtr length type payload ck
  | some .deviceTime => .rxDeviceTime length type payload ck
  | some .tapTime => .rxTapTime length type payload ck
  | some .delayTime => .rxDelayTime length type payload ck
  | some .modbusAddress => .rxModbusAddress length type payload ck
  | some .outputState => .rxOutputState length type payload ck
  | some .inputState => .rxInputState length type payload ck
  | some .cycleTime => .rxCycleTime length type payload ck
  | some .autoEnable => .rxAutoEnable length type payload ck
  | some .auto1 => .rxAuto1 length type payload ck
  | some .auto2 => .rxAuto2 length type payload ck
  | some .auto3 => .rxAuto3 length type payload ck
  | some .auto4 => .rxAuto4 length type payload ck
  | some .auto5 => .rxAuto5 length type payload ck
  | some .auto6 => .rxAuto6 length type payload ck
  | some .auto7 => .rxAuto7 length type payload ck
  | some .auto8 => .rxAuto8 length type payload ck
  | some .auto9 => .rxAuto9 length type payload ck
  | some .auto10 => .rxAuto10 length type payload ck
  | some .auto11 => .rxAuto11 length type payload ck
  | some .auto12 => .rxAuto12 length type payload ck
  | some .auto13 => .rxAuto13 length type payload ck
  | some .auto14 => .rxAuto14 length type payload ck
  | some .auto15 => .rxAuto15 length type payload ck
  | some .auto16 => .rxAuto16 length type payload ck
  | some .typeResponse => .rxTypeResponse length type payload ck
  | none => .rxUnnamed length type command payload ck

/-- A received frame by its header (R68, format `RXFRAME`): the first five bytes classify it, the last byte is its CHECKSUM
field and what stands between is its PAYLOAD field. -/
def decodeRx (bytes : List Byte) : Except DecodeError Instr :=
  match bytes with
  | h0 :: h1 :: length :: type :: command :: rest =>
    if h0 = Config.head0 ∧ h1 = Config.head1 then
      match rest.getLast? with
      | some ck => .ok (rxInstr length type command rest.dropLast ck)
      | none => .error .frameTruncated
    else .error .badHead
  | _ => .error .frameTruncated

/-- A frame the encoder emits (R68, format `TXFRAME`): the READ frame by its TYPE `FE`, the RELAY frame by its TYPE `01`, and
only if an encoder call returns exactly these bytes (R95, log 7). -/
def decodeTx (bytes : List Byte) : Except DecodeError Instr :=
  match bytes with
  | h0 :: h1 :: _ :: type :: command :: rest =>
    if h0 = Config.head0 ∧ h1 = Config.head1 then
      if type = Config.typeRead then
        if rest.dropLast.length ≤ Config.maxPayload ∧ bytes = readFrame command rest.dropLast then
          .ok (.frameRead command rest.dropLast)
        else .error .notEmitted
      else if type = Config.typeWrite then
        match rest with
        | [flag, mask0, mask1, _] =>
          if flag = flagByte true ∧ bytes = frameBytes Config.typeWrite command [flag, mask0, mask1] then
            .ok (.frameRelay command true mask0 mask1)
          else if flag = flagByte false ∧ bytes = frameBytes Config.typeWrite command [flag, mask0, mask1] then
            .ok (.frameRelay command false mask0 mask1)
          else .error .notEmitted
        | _ => .error .notEmitted
      else .error (.typeNotWritten type)
    else .error .badHead
  | _ => .error .frameTruncated

/-- The instruction a request stands for, or why its words are none. -/
def decode : Request → Except DecodeError Instr
  | .op r => .ok (decodeOp r)
  | .tx frame => decodeTx frame
  | .rx bytes => decodeRx bytes

/-- The words of an instruction, from the same tables (R58, R59, R65, R68). -/
def encode : Instr → Request
  | .csum b => .op { op := 0b000, bytes := b }
  | .encRead c p => .op { op := 0b001, command := c, bytes := p }
  | .encRelay c sw st => .op { op := 0b010, command := c, switchSet := sw, state := st }
  | .rxPush bs => .op { op := 0b011, bytes := bs }
  | .parse => .op { op := 0b100 }
  | .drain => .op { op := 0b101 }
  | .pdec c p => .op { op := 0b110, command := c, bytes := p }
  | .reset => .op { op := 0b111 }
  | .frameRead c p => .tx (readFrame c p)
  | .frameRelay c st m0 m1 => .tx (frameBytes Config.typeWrite c [flagByte st, m0, m1])
  | .rxOutputCtr l t p k => .rx (wireFrame l t Command.outputCtr.byte p k)
  | .rxDeviceTime l t p k => .rx (wireFrame l t Command.deviceTime.byte p k)
  | .rxTapTime l t p k => .rx (wireFrame l t Command.tapTime.byte p k)
  | .rxDelayTime l t p k => .rx (wireFrame l t Command.delayTime.byte p k)
  | .rxModbusAddress l t p k => .rx (wireFrame l t Command.modbusAddress.byte p k)
  | .rxOutputState l t p k => .rx (wireFrame l t Command.outputState.byte p k)
  | .rxInputState l t p k => .rx (wireFrame l t Command.inputState.byte p k)
  | .rxCycleTime l t p k => .rx (wireFrame l t Command.cycleTime.byte p k)
  | .rxAutoEnable l t p k => .rx (wireFrame l t Command.autoEnable.byte p k)
  | .rxAuto1 l t p k => .rx (wireFrame l t Command.auto1.byte p k)
  | .rxAuto2 l t p k => .rx (wireFrame l t Command.auto2.byte p k)
  | .rxAuto3 l t p k => .rx (wireFrame l t Command.auto3.byte p k)
  | .rxAuto4 l t p k => .rx (wireFrame l t Command.auto4.byte p k)
  | .rxAuto5 l t p k => .rx (wireFrame l t Command.auto5.byte p k)
  | .rxAuto6 l t p k => .rx (wireFrame l t Command.auto6.byte p k)
  | .rxAuto7 l t p k => .rx (wireFrame l t Command.auto7.byte p k)
  | .rxAuto8 l t p k => .rx (wireFrame l t Command.auto8.byte p k)
  | .rxAuto9 l t p k => .rx (wireFrame l t Command.auto9.byte p k)
  | .rxAuto10 l t p k => .rx (wireFrame l t Command.auto10.byte p k)
  | .rxAuto11 l t p k => .rx (wireFrame l t Command.auto11.byte p k)
  | .rxAuto12 l t p k => .rx (wireFrame l t Command.auto12.byte p k)
  | .rxAuto13 l t p k => .rx (wireFrame l t Command.auto13.byte p k)
  | .rxAuto14 l t p k => .rx (wireFrame l t Command.auto14.byte p k)
  | .rxAuto15 l t p k => .rx (wireFrame l t Command.auto15.byte p k)
  | .rxAuto16 l t p k => .rx (wireFrame l t Command.auto16.byte p k)
  | .rxTypeResponse l t p k => .rx (wireFrame l t Command.typeResponse.byte p k)
  | .rxUnnamed l t c p k => .rx (wireFrame l t c p k)

/-- One byte of a row of the opcode map: a byte matches when its bits under `mask` are `value`. -/
structure RowByte where
  mask : Byte
  value : Byte
  deriving DecidableEq, Repr

/-- A row of spec/opcode_table.json: its mnemonic and its `mask` and `match` numbers, byte by byte, offset 0 first (R68). -/
structure TableRow where
  mnemonic : String
  bytes : List RowByte
  deriving DecidableEq, Repr

/-- The bytes of a header match a row: every byte under the row's mask is the row's value. -/
def TableRow.matchesBytes (row : TableRow) (header : List Byte) : Bool :=
  decide (header.length = row.bytes.length) &&
    (List.zip row.bytes header).all (fun x => (x.2 &&& x.1.mask) == x.1.value)

/-- An `OP` row: `match` under the mask `0x7`. -/
def opRow (mnemonic : String) (select : Byte) : TableRow := ⟨mnemonic, [⟨0x07, select⟩]⟩

/-- A byte that a row fixes: mask all ones, match its value. -/
def rowFixed (value : Byte) : RowByte := ⟨BitVec.allOnes 8, value⟩

/-- A byte that a row leaves free: mask and match 0. -/
def rowFree : RowByte := ⟨0, 0⟩

/-- A frame row: HEAD is fixed, LENGTH, TYPE and COMMAND are as given (R68). -/
def frameRow (mnemonic : String) (length type command : RowByte) : TableRow :=
  ⟨mnemonic, [rowFixed Config.head0, rowFixed Config.head1, length, type, command]⟩

/-- A named `RXFRAME` row: COMMAND is fixed, LENGTH and TYPE are free (R68). -/
def rxRow (mnemonic : String) (c : Command) : TableRow :=
  frameRow mnemonic rowFree rowFree (rowFixed c.byte)

/-- The row of an instruction in spec/opcode_table.json. -/
def tableRow : Instr → TableRow
  | .csum _ => opRow "CSUM" 0
  | .encRead _ _ => opRow "ENC_READ" 1
  | .encRelay _ _ _ => opRow "ENC_RELAY" 2
  | .rxPush _ => opRow "RX_PUSH" 3
  | .parse => opRow "PARSE" 4
  | .drain => opRow "DRAIN" 5
  | .pdec _ _ => opRow "PDEC" 6
  | .reset => opRow "RESET" 7
  | .frameRead _ _ => frameRow "FRAME_READ" rowFree (rowFixed Config.typeRead) rowFree
  | .frameRelay _ _ _ _ => frameRow "FRAME_RELAY" (rowFixed relayLength) (rowFixed Config.typeWrite) rowFree
  | .rxOutputCtr _ _ _ _ => rxRow "RX_OUTPUT_CTR" .outputCtr
  | .rxDeviceTime _ _ _ _ => rxRow "RX_DEVICE_TIME" .deviceTime
  | .rxTapTime _ _ _ _ => rxRow "RX_TAP_TIME" .tapTime
  | .rxDelayTime _ _ _ _ => rxRow "RX_DELAY_TIME" .delayTime
  | .rxModbusAddress _ _ _ _ => rxRow "RX_MODBUS_ADDRESS" .modbusAddress
  | .rxOutputState _ _ _ _ => rxRow "RX_OUTPUT_STATE" .outputState
  | .rxInputState _ _ _ _ => rxRow "RX_INPUT_STATE" .inputState
  | .rxCycleTime _ _ _ _ => rxRow "RX_CYCLE_TIME" .cycleTime
  | .rxAutoEnable _ _ _ _ => rxRow "RX_AUTO_ENABLE" .autoEnable
  | .rxAuto1 _ _ _ _ => rxRow "RX_AUTO_1" .auto1
  | .rxAuto2 _ _ _ _ => rxRow "RX_AUTO_2" .auto2
  | .rxAuto3 _ _ _ _ => rxRow "RX_AUTO_3" .auto3
  | .rxAuto4 _ _ _ _ => rxRow "RX_AUTO_4" .auto4
  | .rxAuto5 _ _ _ _ => rxRow "RX_AUTO_5" .auto5
  | .rxAuto6 _ _ _ _ => rxRow "RX_AUTO_6" .auto6
  | .rxAuto7 _ _ _ _ => rxRow "RX_AUTO_7" .auto7
  | .rxAuto8 _ _ _ _ => rxRow "RX_AUTO_8" .auto8
  | .rxAuto9 _ _ _ _ => rxRow "RX_AUTO_9" .auto9
  | .rxAuto10 _ _ _ _ => rxRow "RX_AUTO_10" .auto10
  | .rxAuto11 _ _ _ _ => rxRow "RX_AUTO_11" .auto11
  | .rxAuto12 _ _ _ _ => rxRow "RX_AUTO_12" .auto12
  | .rxAuto13 _ _ _ _ => rxRow "RX_AUTO_13" .auto13
  | .rxAuto14 _ _ _ _ => rxRow "RX_AUTO_14" .auto14
  | .rxAuto15 _ _ _ _ => rxRow "RX_AUTO_15" .auto15
  | .rxAuto16 _ _ _ _ => rxRow "RX_AUTO_16" .auto16
  | .rxTypeResponse _ _ _ _ => rxRow "RX_TYPE_RESPONSE" .typeResponse
  | .rxUnnamed _ _ _ _ _ => frameRow "RX_UNNAMED" rowFree rowFree rowFree

/-- The header of a request's words, what a row of its format is matched on: the select byte, or the first five bytes. -/
def Request.header : Request → List Byte
  | .op r => [r.op.setWidth 8]
  | .tx frame => frame.take 5
  | .rx bytes => bytes.take 5

/-- The `k` low bytes of a number, the most significant first: R68 numbers a frame row with offset 0 most significant. -/
def bytesOfNumber : Nat → Nat → List Byte
  | 0, _ => []
  | k + 1, w => BitVec.ofNat 8 (w / 256 ^ k) :: bytesOfNumber k w

/-- A frame header with the zero bytes that its LENGTH still declares, at least one (the CHECKSUM field). Log 15. -/
def padFrame (header : List Byte) : List Byte :=
  header ++ List.replicate (max 1 ((byteAt header 2).toNat + Config.frameOverhead - header.length)) 0

/-- What the host presents when the bits of an instruction are `w`, as the opcode table numbers them (log 15): for a row of at
most one byte the select `OP[2:0]` with no operands, for a longer row a frame header. A header is sent out (`TXFRAME`) when
it matches one of the two `TXFRAME` rows, and is received (`RXFRAME`) otherwise. -/
def wordRequest (nbits w : Nat) : Request :=
  if nbits ≤ 8 then .op { op := BitVec.ofNat 3 w }
  else
    let header := bytesOfNumber (nbits / 8) w
    if (tableRow (.frameRead 0 [])).matchesBytes header || (tableRow (.frameRelay 0 false 0 0)).matchesBytes header then
      .tx (padFrame header)
    else .rx (padFrame header)

/-- The instruction the decoder reads from the bits `w` of a row of the opcode table. -/
def decodeTableWord (nbits w : Nat) : Option Instr := (decode (wordRequest nbits w)).toOption

/-- `outputState()`: the host's query of the relays (R67, R96). -/
def pseudoOutputState : Instr := .encRead Command.outputState.byte []

/-- `inputState()`: the host's query of the inputs (R67, R97). -/
def pseudoInputState : Instr := .encRead Command.inputState.byte []

/-- `deviceClock()`: the host's query of the clock (R67, R98). -/
def pseudoDeviceClock : Instr := .encRead Command.deviceTime.byte []

end Sys2Proof
end

