-- ==== Sys2Proof/Machine/State.lean ====
section
/-! DEFINITION. The state of the codec (10_state.md), the results its operations hand to the host (60_exceptions.md rule
R170), the ways a step can stop, and the state after reset (R20). -/

namespace Sys2Proof.Machine

/-- A decoded device clock (R143, R154): the year in 12 bits, five unsigned bytes, none range-checked (R153). -/
structure DeviceClock where
  year : BitVec 12
  month : Byte
  day : Byte
  hour : Byte
  minute : Byte
  second : Byte
  deriving DecidableEq, Repr

/-- What `PDEC` answers (R140). -/
inductive PdecResult where
  /-- switch `i` is bit `i - 1` (R154) -/
  | switchMap (v : BitVec 16)
  | deviceClock (c : DeviceClock)
  /-- a decoded command with a payload of the wrong length (R175) -/
  | decodeError (command : Byte) (expected got : Nat)
  /-- a named command without a decoder (R176) -/
  | noDecoder (command : Byte)
  /-- a command byte outside the enumeration (R177) -/
  | unknownCommand (command : Byte)
  deriving DecidableEq, Repr

/-- What `PARSE` answers (R111). -/
inductive ParseResult where
  | frame (type command : Byte) (payload : List Byte)
  | needMoreData (desync : Bool)
  | checksumError (computed received : Byte)
  | shortLength (length : Byte)
  deriving DecidableEq, Repr

/-- One event of `DRAIN` (R112). -/
inductive Event where
  | frameEvt (type command : Byte) (payload : List Byte) (result : PdecResult)
  | ckErrEvt (computed received : Byte)
  | shortLenEvt (length : Byte)
  | needMoreEvt (desync : Bool)
  deriving DecidableEq, Repr

/-- What a completed operation hands to the host: its outcome and its value (R170). -/
inductive Completion where
  /-- `Ok` with no value: `RX_PUSH`, `RESET` -/
  | ok
  /-- the byte `CSUM` returns -/
  | csum (value : Byte)
  /-- the frame an encoder returns -/
  | bytes (frame : List Byte)
  /-- `ENC_READ` refused a payload of `n` bytes (R92) -/
  | payloadTooLong (n : Nat)
  /-- `RX_PUSH` refused `want` bytes with `have` buffered (R110) -/
  | rxOverflow (held want : Nat)
  | parse (r : ParseResult)
  | drain (events : List Event)
  | pdec (r : PdecResult)
  deriving DecidableEq, Repr

/-- The ways the codec stops with a fault: none. "No outcome halts the codec, and no outcome is fatal" (R188); the outcomes
of R170 are results (log 19). Nothing raises a fault; safe. -/
inductive Fault where
  deriving DecidableEq, Repr

/-- Why a step has no meaning. -/
inductive Refusal where
  /-- An instruction without a meaning yet; raised by no arm of this model's exec. Safe. -/
  | notModelled (mnemonic : String)
  /-- `step`, on a request whose words no operation of the codec returns or takes (a `TXFRAME` word the encoder never
  emits, R95; log 7). Safe: the model stops where the codec has nothing to do. -/
  | undecodable (e : DecodeError)
  /-- `step`, on two operations requested at once, which "have no meaning in this spec" (R37, D28). Safe. -/
  | simultaneousRequests
  deriving DecidableEq, Repr

/-- The state. `rxbuf` and `status` are the spec's whole state (R10). `rxcap` is the open parameter of R6 (log 4); `requests`
and `results` are the host's side of the interface of R9: what it is about to present and what it has been answered (logs 2
and 3). No operation reads `status` (R15), `requests` or `results` (R13). -/
structure State where
  /-- `RXBUF`: the receive buffer, oldest byte at index 0 (R11) -/
  rxbuf : List Byte
  /-- `STATUS`: bit 0 `DESYNC`, bit 1 `CKERR`, bit 2 `SHORTLEN`, bit 3 `RXOVF`, bits 7:4 reserved (R12, R16) -/
  status : BitVec 8
  /-- `RXCAP`: the capacity of `rxbuf` (R6, R36) -/
  rxcap : RxCap
  /-- the host's coming turns, the next one first -/
  requests : List Turn
  /-- the completions handed to the host, the first one first -/
  results : List Completion
  deriving DecidableEq, Repr

/-- The state right after reset: `RXBUF = []`, `STATUS = 0x00` (R20, R201); the capacity is the codec's, whatever it is; the
host has asked for nothing and has been answered nothing. -/
def State.reset : State :=
  { rxbuf := [], status := 0x00, rxcap := Config.rxcap, requests := [], results := [] }

end Sys2Proof.Machine
end

