-- ==== Sys2Proof/Machine/Flags.lean ====
section
/-! DEFINITION. The four sticky flags of `STATUS` and its read port (10_state.md rules R12, R15, R16; 44_control.md rule
R161), and the outcome codes (60_exceptions.md rule R170). -/

namespace Sys2Proof.Machine

/-- The flags of `STATUS` (R12). -/
inductive StatusFlag where
  | desync
  | ckerr
  | shortlen
  | rxovf
  deriving DecidableEq, Repr

/-- The bit of `STATUS` that a flag is (R12). -/
def StatusFlag.bit : StatusFlag → Nat
  | .desync => 0
  | .ckerr => 1
  | .shortlen => 2
  | .rxovf => 3

/-- `STATUS` with only this flag set. -/
def flagMask (f : StatusFlag) : BitVec 8 := 1#8 <<< f.bit

/-- `STATUS.F <- 1`: sticky, every other bit as before (R12). -/
def State.setFlag (f : StatusFlag) (s : State) : State :=
  { s with status := s.status ||| flagMask f }

/-- `STATUS.F` as a Boolean. -/
def State.flag (f : StatusFlag) (s : State) : Bool := s.status.getLsbD f.bit

/-- The host's read of `STATUS`: bits 7:4 read as 0; nothing changes (R12, R161; log 8). -/
def State.readStatus (s : State) : BitVec 8 := s.status &&& 0x0F

/-- The 4-bit outcome code of a `PARSE` result (R170). -/
def parseCode : ParseResult → BitVec 4
  | .frame _ _ _ => 0
  | .needMoreData false => 1
  | .needMoreData true => 2
  | .checksumError _ _ => 3
  | .shortLength _ => 4

/-- The 4-bit outcome code of a `PDEC` result (R170). -/
def pdecCode : PdecResult → BitVec 4
  | .switchMap _ => 0
  | .deviceClock _ => 0
  | .decodeError _ _ _ => 5
  | .noDecoder _ => 6
  | .unknownCommand _ => 7

/-- The 4-bit outcome code of a completion (R170); `DRAIN` always succeeds (R112). -/
def outcomeCode : Completion → BitVec 4
  | .ok => 0
  | .csum _ => 0
  | .bytes _ => 0
  | .payloadTooLong _ => 8
  | .rxOverflow _ _ => 9
  | .parse r => parseCode r
  | .drain _ => 0
  | .pdec r => pdecCode r

end Sys2Proof.Machine
end

