-- ==== Sys2Proof/Machine/Ops.lean ====
section
/-! DEFINITION. The primitives over the receive buffer (20_memory.md rule R35), handing a result to the host, and the entry
of an outcome (60_exceptions.md rule R182). There is no return from an outcome: the next operation simply runs (R183). -/

namespace Sys2Proof

/-- The buffer may hold `n` bytes: `n <= RXCAP` (R6, R36). Every capacity admits a whole frame. -/
def RxCap.admits (cap : RxCap) (n : Nat) : Bool :=
  decide (n ≤ Config.maxFrame) ||
    (match cap with
     | .infinite => true
     | .bounded extra => decide (n ≤ Config.maxFrame + extra))

end Sys2Proof

namespace Sys2Proof.Machine

/-- `RxLen()` (R35). -/
def State.rxLen (s : State) : Nat := s.rxbuf.length

/-- `RxPeek(i, n)`: `RXBUF[i ..< i+n]`, used only when `i + n <= RxLen()` (R35). -/
def State.rxPeek (i n : Nat) (s : State) : List Byte := sliceBytes s.rxbuf i (i + n)

/-- `RxConsume(k)`: the first `k` bytes removed, used only when `k <= RxLen()` (R35). -/
def State.rxConsume (k : Nat) (s : State) : State := { s with rxbuf := s.rxbuf.drop k }

/-- `RxAppend(bs)`, used only when the bytes fit (R35). -/
def State.rxAppend (bs : List Byte) (s : State) : State := { s with rxbuf := s.rxbuf ++ bs }

/-- `RXBUF <- []` (R160). -/
def State.rxClear (s : State) : State := { s with rxbuf := [] }

/-- Whether `RxAppend(bs)` is defined: `RxLen() + len(bs) <= RXCAP` (R35, R36). -/
def State.rxFits (bs : List Byte) (s : State) : Bool := s.rxcap.admits (s.rxLen + bs.length)

/-- The operation ends and its result goes to the host (R9, R182; log 3). -/
def State.deliver (c : Completion) (s : State) : State := { s with results := s.results ++ [c] }

/-- `raise <Outcome>`: the outcome's flag, where it has one, is set and the operation ends with the outcome. An outcome saves
nothing, switches nothing and transfers control nowhere (R182). -/
def raiseOutcome {ρ : Type} (flag : Option StatusFlag) (r : ρ) (s : State) : ρ × State :=
  match flag with
  | some f => (r, s.setFlag f)
  | none => (r, s)

/-- The memory of the codec is in order: the buffer is within its capacity (R11). Every list of bytes is one buffer and
equal buffers are equal lists, so nothing else is asked of its form (log 18). -/
abbrev Memory.wf (s : State) : Prop := s.rxcap.admits s.rxbuf.length = true

end Sys2Proof.Machine
end

