-- ==== Sys2Proof/Machine/Checksum.lean ====
section
/-! DEFINITION. The checksum calculator `CSUM` (40_checksum.md). -/

namespace Sys2Proof.Machine

/-- `CSUM` (R80): always succeeds, reads and writes no state of the codec. -/
def execCsum (b : List Byte) (s : State) : Host.Outcome State Fault Refusal :=
  .next (s.deliver (.csum (checksum b)))

end Sys2Proof.Machine
end

