-- ==== Sys2Proof/Machine/Control.lean ====
section
/-! DEFINITION. The control operation `RESET` (44_control.md). -/

namespace Sys2Proof.Machine

/-- `RESET` (R160): `RXBUF <- []`, `STATUS <- 0x00`, `Ok`; the host's side is untouched. -/
def execReset (s : State) : Host.Outcome State Fault Refusal :=
  .next (State.deliver .ok { s.rxClear with status := 0x00 })

end Sys2Proof.Machine
end

