-- ==== Sys2Proof/Machine/Encoder.lean ====
section
/-! DEFINITION. The frame encoder (41_encode.md): `ENC_READ`, `ENC_RELAY` and the two `TXFRAME` rows, which stand for the
frames these two emit (log 6). -/

namespace Sys2Proof.Machine

/-- What `ENC_READ` answers: the READ frame, or `PayloadTooLong` and no bytes (R90, R92). -/
def encReadResult (command : Byte) (payload : List Byte) : Completion :=
  if payload.length ≤ Config.maxPayload then .bytes (readFrame command payload)
  else .payloadTooLong payload.length

/-- `ENC_READ` (R90). -/
def execEncRead (command : Byte) (payload : List Byte) (s : State) : Host.Outcome State Fault Refusal :=
  .next (s.deliver (encReadResult command payload))

/-- `ENC_RELAY` (R91): always succeeds. -/
def execEncRelay (command : Byte) (switchSet : List Nat) (state : Bool) (s : State) :
    Host.Outcome State Fault Refusal :=
  .next (s.deliver (.bytes (relayFrame command switchSet state)))

/-- `FRAME_READ`: the encoder emits the READ frame of this COMMAND and PAYLOAD (R58, R90; log 6). -/
def execFrameRead (command : Byte) (payload : List Byte) (s : State) : Host.Outcome State Fault Refusal :=
  .next (s.deliver (encReadResult command payload))

/-- `FRAME_RELAY`: the encoder emits the RELAY frame of this COMMAND, flag and mask, by the switch set whose mask it is (R59,
R91; log 6). -/
def execFrameRelay (command : Byte) (state : Bool) (mask0 mask1 : Byte) (s : State) :
    Host.Outcome State Fault Refusal :=
  .next (s.deliver (.bytes (relayFrame command (maskSwitches mask0 mask1) state)))

end Sys2Proof.Machine
end

