-- ==== Sys2Proof/Machine/PayloadDecoder.lean ====
section
/-! DEFINITION. The response-payload decoder `PDEC` (43_payload_decode.md): one function per command with a decoder, the
lookup by command, and the operation's meaning. -/

namespace Sys2Proof.Machine

/-- OUTPUT_STATE: exactly 2 bytes, a switch map (R141). -/
def pdecOutputState (payload : List Byte) : PdecResult :=
  if payload.length = Config.stateLen then .switchMap (switchBits (byteAt payload 0) (byteAt payload 1))
  else .decodeError Command.outputState.byte Config.stateLen payload.length

/-- INPUT_STATE: exactly 2 bytes, a switch map (R142). -/
def pdecInputState (payload : List Byte) : PdecResult :=
  if payload.length = Config.stateLen then .switchMap (switchBits (byteAt payload 0) (byteAt payload 1))
  else .decodeError Command.inputState.byte Config.stateLen payload.length

/-- DEVICE_TIME: exactly 6 bytes, a clock, no range check and no wrap of the year (R143, R153). -/
def pdecDeviceTime (payload : List Byte) : PdecResult :=
  if payload.length = Config.clockLen then
    .deviceClock
      { year := clockYear (byteAt payload 0), month := byteAt payload 1, day := byteAt payload 2,
        hour := byteAt payload 3, minute := byteAt payload 4, second := byteAt payload 5 }
  else .decodeError Command.deviceTime.byte Config.clockLen payload.length

/-- The result of a named command: the three with a decoder, and the others, which have none whatever the payload (R141 to
R151). -/
def pdecCommand (c : Command) (payload : List Byte) : PdecResult :=
  match c with
  | .outputState => pdecOutputState payload
  | .inputState => pdecInputState payload
  | .deviceTime => pdecDeviceTime payload
  | .outputCtr => .noDecoder Command.outputCtr.byte
  | .tapTime => .noDecoder Command.tapTime.byte
  | .delayTime => .noDecoder Command.delayTime.byte
  | .modbusAddress => .noDecoder Command.modbusAddress.byte
  | .cycleTime => .noDecoder Command.cycleTime.byte
  | .autoEnable => .noDecoder Command.autoEnable.byte
  | .auto1 => .noDecoder Command.auto1.byte
  | .auto2 => .noDecoder Command.auto2.byte
  | .auto3 => .noDecoder Command.auto3.byte
  | .auto4 => .noDecoder Command.auto4.byte
  | .auto5 => .noDecoder Command.auto5.byte
  | .auto6 => .noDecoder Command.auto6.byte
  | .auto7 => .noDecoder Command.auto7.byte
  | .auto8 => .noDecoder Command.auto8.byte
  | .auto9 => .noDecoder Command.auto9.byte
  | .auto10 => .noDecoder Command.auto10.byte
  | .auto11 => .noDecoder Command.auto11.byte
  | .auto12 => .noDecoder Command.auto12.byte
  | .auto13 => .noDecoder Command.auto13.byte
  | .auto14 => .noDecoder Command.auto14.byte
  | .auto15 => .noDecoder Command.auto15.byte
  | .auto16 => .noDecoder Command.auto16.byte
  | .typeResponse => .noDecoder Command.typeResponse.byte

/-- `PDEC(command, payload)`: the command is looked up first, its length requirement tested second (R140, R181). -/
def pdec (command : Byte) (payload : List Byte) : PdecResult :=
  match commandOfByte command with
  | some c => pdecCommand c payload
  | none => .unknownCommand command

/-- `PDEC` (R140): pure, every outcome is handed to the host. -/
def execPdec (command : Byte) (payload : List Byte) (s : State) : Host.Outcome State Fault Refusal :=
  .next (s.deliver (.pdec (pdec command payload)))

end Sys2Proof.Machine
end

