-- ==== Sys2Proof/Machine/Decoder.lean ====
section
/-! DEFINITION. The frame decoder (42_decode.md): `RX_PUSH`, `PARSE`, `DRAIN`, and the reception of bytes that the `RXFRAME`
rows stand for (log 5). -/

namespace Sys2Proof.Machine

/-- `RX_PUSH(bs)` (R110): all of `bs` appended, or nothing appended, `RXOVF` set and `RxOverflow` answered. -/
def rxPush (bs : List Byte) (s : State) : Completion × State :=
  if s.rxFits bs then (.ok, s.rxAppend bs)
  else raiseOutcome (some .rxovf) (.rxOverflow s.rxLen bs.length) s

/-- The whole declared frame `f` has been sliced off (steps 5 to 7 of R111): a LENGTH below 3 is tested before the checksum,
the checksum before the frame is delivered (R181). -/
def checkFrame (f : List Byte) (s : State) : ParseResult × State :=
  let length := byteAt f 2
  let total := f.length
  if length.toNat < Config.lenOverhead then raiseOutcome (some .shortlen) (.shortLength length) s
  else
    let c := checksum (sliceBytes f 0 (total - 1))
    let received := byteAt f (total - 1)
    if c = received then
      raiseOutcome none (.frame (byteAt f 3) (byteAt f 4) (sliceBytes f 5 (total - 1))) s
    else raiseOutcome (some .ckerr) (.checksumError c received) s

/-- `PARSE()` (R111): the checks in the order of its steps 1 to 7. -/
def parse (s : State) : ParseResult × State :=
  if s.rxLen < Config.headerLen then raiseOutcome none (.needMoreData false) s
  else if byteAt s.rxbuf 0 ≠ Config.head0 ∨ byteAt s.rxbuf 1 ≠ Config.head1 then
    raiseOutcome (some .desync) (.needMoreData true) s
  else
    let total := (byteAt s.rxbuf 2).toNat + Config.frameOverhead
    if s.rxLen < total then raiseOutcome none (.needMoreData false) s
    else checkFrame (s.rxPeek 0 total) (s.rxConsume total)

/-- The decode loop (R112), at most `fuel` iterations: `PARSE`, and `PDEC` on every frame, until `NeedMoreData`. -/
def drainLoop : Nat → State → List Event × State
  | 0, s => ([], s)
  | fuel + 1, s =>
    match parse s with
    | (.frame t c p, s') =>
      ((.frameEvt t c p (pdec c p)) :: (drainLoop fuel s').1, (drainLoop fuel s').2)
    | (.checksumError x y, s') => (.ckErrEvt x y :: (drainLoop fuel s').1, (drainLoop fuel s').2)
    | (.shortLength l, s') => (.shortLenEvt l :: (drainLoop fuel s').1, (drainLoop fuel s').2)
    | (.needMoreData d, s') => ([.needMoreEvt d], s')

/-- `DRAIN()` (R112): "at most `len(RXBUF) div 3` iterations plus one" (log 14). -/
def drain (s : State) : List Event × State := drainLoop (s.rxLen / 3 + 1) s

/-- `RX_PUSH` with its result handed to the host. -/
def pushStep (bs : List Byte) (s : State) : State := (rxPush bs s).2.deliver (rxPush bs s).1

/-- `DRAIN` with its events handed to the host. -/
def drainStep (s : State) : State := (drain s).2.deliver (.drain (drain s).1)

/-- The reception of bytes, as the host does it (R9, R204): `RX_PUSH` of the bytes, then `DRAIN`; two results. Log 5. -/
def receive (bytes : List Byte) (s : State) : State := drainStep (pushStep bytes s)

/-- `RX_PUSH` (R110). -/
def execRxPush (bs : List Byte) (s : State) : Host.Outcome State Fault Refusal :=
  .next (pushStep bs s)

/-- `PARSE` (R111). -/
def execParse (s : State) : Host.Outcome State Fault Refusal :=
  .next ((parse s).2.deliver (.parse (parse s).1))

/-- `DRAIN` (R112). -/
def execDrain (s : State) : Host.Outcome State Fault Refusal :=
  .next (drainStep s)

end Sys2Proof.Machine
end

