-- ==== Sys2Proof/Machine/RxFrames.lean ====
section
/-! DEFINITION. The `RXFRAME` rows of the opcode map (30_encoding.md rule R68): a frame of the row's command is received. The
bytes are delivered and decoded as every received byte is (R9, R110 to R112), so a frame whose LENGTH or CHECKSUM field is
wrong takes the outcome the spec gives it (R114, R115); a good one is answered with the `PDEC` result of its command. Log 5. -/

namespace Sys2Proof.Machine

/-- `RX_OUTPUT_CTR` (R144). -/
def execRxOutputCtr (length type : Byte) (payload : List Byte) (ck : Byte) (s : State) :
    Host.Outcome State Fault Refusal :=
  .next (receive (wireFrame length type Command.outputCtr.byte payload ck) s)

/-- `RX_DEVICE_TIME` (R143). -/
def execRxDeviceTime (length type : Byte) (payload : List Byte) (ck : Byte) (s : State) :
    Host.Outcome State Fault Refusal :=
  .next (receive (wireFrame length type Command.deviceTime.byte payload ck) s)

/-- `RX_TAP_TIME` (R145). -/
def execRxTapTime (length type : Byte) (payload : List Byte) (ck : Byte) (s : State) :
    Host.Outcome State Fault Refusal :=
  .next (receive (wireFrame length type Command.tapTime.byte payload ck) s)

/-- `RX_DELAY_TIME` (R146). -/
def execRxDelayTime (length type : Byte) (payload : List Byte) (ck : Byte) (s : State) :
    Host.Outcome State Fault Refusal :=
  .next (receive (wireFrame length type Command.delayTime.byte payload ck) s)

/-- `RX_MODBUS_ADDRESS` (R147). -/
def execRxModbusAddress (length type : Byte) (payload : List Byte) (ck : Byte) (s : State) :
    Host.Outcome State Fault Refusal :=
  .next (receive (wireFrame length type Command.modbusAddress.byte payload ck) s)

/-- `RX_OUTPUT_STATE` (R141). -/
def execRxOutputState (length type : Byte) (payload : List Byte) (ck : Byte) (s : State) :
    Host.Outcome State Fault Refusal :=
  .next (receive (wireFrame length type Command.outputState.byte payload ck) s)

/-- `RX_INPUT_STATE` (R142). -/
def execRxInputState (length type : Byte) (payload : List Byte) (ck : Byte) (s : State) :
    Host.Outcome State Fault Refusal :=
  .next (receive (wireFrame length type Command.inputState.byte payload ck) s)

/-- `RX_CYCLE_TIME` (R148). -/
def execRxCycleTime (length type : Byte) (payload : List Byte) (ck : Byte) (s : State) :
    Host.Outcome State Fault Refusal :=
  .next (receive (wireFrame length type Command.cycleTime.byte payload ck) s)

/-- `RX_AUTO_ENABLE` (R149). -/
def execRxAutoEnable (length type : Byte) (payload : List Byte) (ck : Byte) (s : State) :
    Host.Outcome State Fault Refusal :=
  .next (receive (wireFrame length type Command.autoEnable.byte payload ck) s)

/-- `RX_AUTO_1` (R150). -/
def execRxAuto1 (length type : Byte) (payload : List Byte) (ck : Byte) (s : State) :
    Host.Outcome State Fault Refusal :=
  .next (receive (wireFrame length type Command.auto1.byte payload ck) s)

/-- `RX_AUTO_2` (R150). -/
def execRxAuto2 (length type : Byte) (payload : List Byte) (ck : Byte) (s : State) :
    Host.Outcome State Fault Refusal :=
  .next (receive (wireFrame length type Command.auto2.byte payload ck) s)

/-- `RX_AUTO_3` (R150). -/
def execRxAuto3 (length type : Byte) (payload : List Byte) (ck : Byte) (s : State) :
    Host.Outcome State Fault Refusal :=
  .next (receive (wireFrame length type Command.auto3.byte payload ck) s)

/-- `RX_AUTO_4` (R150). -/
def execRxAuto4 (length type : Byte) (payload : List Byte) (ck : Byte) (s : State) :
    Host.Outcome State Fault Refusal :=
  .next (receive (wireFrame length type Command.auto4.byte payload ck) s)

/-- `RX_AUTO_5` (R150). -/
def execRxAuto5 (length type : Byte) (payload : List Byte) (ck : Byte) (s : State) :
    Host.Outcome State Fault Refusal :=
  .next (receive (wireFrame length type Command.auto5.byte payload ck) s)

/-- `RX_AUTO_6` (R150). -/
def execRxAuto6 (length type : Byte) (payload : List Byte) (ck : Byte) (s : State) :
    Host.Outcome State Fault Refusal :=
  .next (receive (wireFrame length type Command.auto6.byte payload ck) s)

/-- `RX_AUTO_7` (R150). -/
def execRxAuto7 (length type : Byte) (payload : List Byte) (ck : Byte) (s : State) :
    Host.Outcome State Fault Refusal :=
  .next (receive (wireFrame length type Command.auto7.byte payload ck) s)

/-- `RX_AUTO_8` (R150). -/
def execRxAuto8 (length type : Byte) (payload : List Byte) (ck : Byte) (s : State) :
    Host.Outcome State Fault Refusal :=
  .next (receive (wireFrame length type Command.auto8.byte payload ck) s)

/-- `RX_AUTO_9` (R150). -/
def execRxAuto9 (length type : Byte) (payload : List Byte) (ck : Byte) (s : State) :
    Host.Outcome State Fault Refusal :=
  .next (receive (wireFrame length type Command.auto9.byte payload ck) s)

/-- `RX_AUTO_10` (R150). -/
def execRxAuto10 (length type : Byte) (payload : List Byte) (ck : Byte) (s : State) :
    Host.Outcome State Fault Refusal :=
  .next (receive (wireFrame length type Command.auto10.byte payload ck) s)

/-- `RX_AUTO_11` (R150). -/
def execRxAuto11 (length type : Byte) (payload : List Byte) (ck : Byte) (s : State) :
    Host.Outcome State Fault Refusal :=
  .next (receive (wireFrame length type Command.auto11.byte payload ck) s)

/-- `RX_AUTO_12` (R150). -/
def execRxAuto12 (length type : Byte) (payload : List Byte) (ck : Byte) (s : State) :
    Host.Outcome State Fault Refusal :=
  .next (receive (wireFrame length type Command.auto12.byte payload ck) s)

/-- `RX_AUTO_13` (R150). -/
def execRxAuto13 (length type : Byte) (payload : List Byte) (ck : Byte) (s : State) :
    Host.Outcome State Fault Refusal :=
  .next (receive (wireFrame length type Command.auto13.byte payload ck) s)

/-- `RX_AUTO_14` (R150). -/
def execRxAuto14 (length type : Byte) (payload : List Byte) (ck : Byte) (s : State) :
    Host.Outcome State Fault Refusal :=
  .next (receive (wireFrame length type Command.auto14.byte payload ck) s)

/-- `RX_AUTO_15` (R150). -/
def execRxAuto15 (length type : Byte) (payload : List Byte) (ck : Byte) (s : State) :
    Host.Outcome State Fault Refusal :=
  .next (receive (wireFrame length type Command.auto15.byte payload ck) s)

/-- `RX_AUTO_16` (R150). -/
def execRxAuto16 (length type : Byte) (payload : List Byte) (ck : Byte) (s : State) :
    Host.Outcome State Fault Refusal :=
  .next (receive (wireFrame length type Command.auto16.byte payload ck) s)

/-- `RX_TYPE_RESPONSE` (R151). -/
def execRxTypeResponse (length type : Byte) (payload : List Byte) (ck : Byte) (s : State) :
    Host.Outcome State Fault Refusal :=
  .next (receive (wireFrame length type Command.typeResponse.byte payload ck) s)

/-- `RX_UNNAMED` (R152). -/
def execRxUnnamed (length type command : Byte) (payload : List Byte) (ck : Byte) (s : State) :
    Host.Outcome State Fault Refusal :=
  .next (receive (wireFrame length type command payload ck) s)

end Sys2Proof.Machine
end

