-- ==== Sys2Proof/Machine/Dispatch.lean ====
section
/-! DEFINITION. Which meaning each instruction has: one arm per constructor of Instr. -/

namespace Sys2Proof.Machine

def exec (i : Instr) (s : State) : Host.Outcome State Fault Refusal :=
  match i with
  | .csum b => Sys2Proof.Machine.execCsum b s
  | .encRead command payload => Sys2Proof.Machine.execEncRead command payload s
  | .encRelay command switchSet state => Sys2Proof.Machine.execEncRelay command switchSet state s
  | .rxPush bs => Sys2Proof.Machine.execRxPush bs s
  | .parse => Sys2Proof.Machine.execParse s
  | .drain => Sys2Proof.Machine.execDrain s
  | .pdec command payload => Sys2Proof.Machine.execPdec command payload s
  | .reset => Sys2Proof.Machine.execReset s
  | .frameRead command payload => Sys2Proof.Machine.execFrameRead command payload s
  | .frameRelay command state mask0 mask1 => Sys2Proof.Machine.execFrameRelay command state mask0 mask1 s
  | .rxOutputCtr length type payload ck => Sys2Proof.Machine.execRxOutputCtr length type payload ck s
  | .rxDeviceTime length type payload ck => Sys2Proof.Machine.execRxDeviceTime length type payload ck s
  | .rxTapTime length type payload ck => Sys2Proof.Machine.execRxTapTime length type payload ck s
  | .rxDelayTime length type payload ck => Sys2Proof.Machine.execRxDelayTime length type payload ck s
  | .rxModbusAddress length type payload ck => Sys2Proof.Machine.execRxModbusAddress length type payload ck s
  | .rxOutputState length type payload ck => Sys2Proof.Machine.execRxOutputState length type payload ck s
  | .rxInputState length type payload ck => Sys2Proof.Machine.execRxInputState length type payload ck s
  | .rxCycleTime length type payload ck => Sys2Proof.Machine.execRxCycleTime length type payload ck s
  | .rxAutoEnable length type payload ck => Sys2Proof.Machine.execRxAutoEnable length type payload ck s
  | .rxAuto1 length type payload ck => Sys2Proof.Machine.execRxAuto1 length type payload ck s
  | .rxAuto2 length type payload ck => Sys2Proof.Machine.execRxAuto2 length type payload ck s
  | .rxAuto3 length type payload ck => Sys2Proof.Machine.execRxAuto3 length type payload ck s
  | .rxAuto4 length type payload ck => Sys2Proof.Machine.execRxAuto4 length type payload ck s
  | .rxAuto5 length type payload ck => Sys2Proof.Machine.execRxAuto5 length type payload ck s
  | .rxAuto6 length type payload ck => Sys2Proof.Machine.execRxAuto6 length type payload ck s
  | .rxAuto7 length type payload ck => Sys2Proof.Machine.execRxAuto7 length type payload ck s
  | .rxAuto8 length type payload ck => Sys2Proof.Machine.execRxAuto8 length type payload ck s
  | .rxAuto9 length type payload ck => Sys2Proof.Machine.execRxAuto9 length type payload ck s
  | .rxAuto10 length type payload ck => Sys2Proof.Machine.execRxAuto10 length type payload ck s
  | .rxAuto11 length type payload ck => Sys2Proof.Machine.execRxAuto11 length type payload ck s
  | .rxAuto12 length type payload ck => Sys2Proof.Machine.execRxAuto12 length type payload ck s
  | .rxAuto13 length type payload ck => Sys2Proof.Machine.execRxAuto13 length type payload ck s
  | .rxAuto14 length type payload ck => Sys2Proof.Machine.execRxAuto14 length type payload ck s
  | .rxAuto15 length type payload ck => Sys2Proof.Machine.execRxAuto15 length type payload ck s
  | .rxAuto16 length type payload ck => Sys2Proof.Machine.execRxAuto16 length type payload ck s
  | .rxTypeResponse length type payload ck => Sys2Proof.Machine.execRxTypeResponse length type payload ck s
  | .rxUnnamed length type command payload ck => Sys2Proof.Machine.execRxUnnamed length type command payload ck s

end Sys2Proof.Machine
end

