-- ==== Sys2Proof/Machine/Fetch.lean ====
section
/-! DEFINITION. What a step does around exec: taking the host's turn off the queue, and words that are no instruction. -/

namespace Sys2Proof.Machine

/-- The host's side with these turns still to come. -/
def State.withRequests (rest : List Turn) (s : State) : State := { s with requests := rest }

/-- A request that decodes to no instruction. Received bytes are received all the same, and take the outcome the spec gives
them: too few bytes wait, a wrong head is a desync (R64, R113, R116). A `TXFRAME` word the encoder never emits is refused by
name. Log 7. -/
def undecoded (r : Request) (e : DecodeError) (s : State) : Host.Outcome State Fault Refusal :=
  match r with
  | .rx bytes => .next (receive bytes s)
  | .tx _ => .refused (.undecodable e)
  | .op _ => .refused (.undecodable e)

end Sys2Proof.Machine
end

