-- ==== Sys2Proof/Machine/Step.lean ====
section
/-! DEFINITION. One step of the machine: the host's next turn is taken and what it asks for runs whole (00_scope.md rules R7
to R9, 20_memory.md rule R37). -/

namespace Sys2Proof.Machine

/-- One step (log 2). With no turn to take, or at an idle turn, the codec does nothing (R8, R187). -/
def step (s : State) : Host.Outcome State Fault Refusal :=
  match s.requests with
  | [] => .next s
  | .idle :: rest => .next (s.withRequests rest)
  | .simultaneous _ _ :: _ => .refused .simultaneousRequests
  | .request r :: rest =>
    match decode r with
    | .ok i => exec i (s.withRequests rest)
    | .error e => undecoded r e (s.withRequests rest)

/-- `s` with the instruction whose bits are `w` as the host's very next request (logs 2 and 15). -/
def State.withFetchWord (s : State) (nbits w : Nat) : State :=
  s.withRequests (.request (wordRequest nbits w) :: s.requests)

end Sys2Proof.Machine
end

