-- ==== Sys2Proof/Safety.lean ====
section
/-! DEFINITION. The terms in which claims are stated: what a safe run is, the predicates of 70_reset_and_hazards.md rule R212,
the desynchronised codec (R203), a well-formed frame (30_encoding.md rule R52), and lists of operations run in order. -/

namespace Sys2Proof

open Machine

/-- A list of instructions run in order, as a program of 95_test_vectors.md is. -/
def runInstrs : List Instr → State → Host.Outcome State Fault Refusal
  | [], s => .next s
  | i :: is, s =>
    match exec i s with
    | .next t => runInstrs is t
    | .fault r => .fault r
    | .refused r => .refused r

/-- A well-formed frame (R52). -/
abbrev WellFormedFrame (f : List Byte) : Prop :=
  byteAt f 0 = Config.head0 ∧ byteAt f 1 = Config.head1 ∧ Config.lenOverhead ≤ (byteAt f 2).toNat ∧
    f.length = (byteAt f 2).toNat + Config.frameOverhead ∧
    byteAt f (f.length - 1) = checksum (sliceBytes f 0 (f.length - 1))

/-- The first two bytes are not HEAD (R116). -/
abbrev WrongHead (s : State) : Prop :=
  byteAt s.rxbuf 0 ≠ Config.head0 ∨ byteAt s.rxbuf 1 ≠ Config.head1

/-- Desynchronised: at least 3 bytes buffered and the first two are not HEAD (R116, R203). -/
abbrev Desynced (s : State) : Prop := Config.headerLen ≤ s.rxbuf.length ∧ WrongHead s

/-- Quiescent: `PARSE` would raise `NeedMoreData` (R212). -/
abbrev Quiescent (s : State) : Prop :=
  s.rxbuf.length < Config.headerLen ∨ WrongHead s ∨
    s.rxbuf.length < (byteAt s.rxbuf 2).toNat + Config.frameOverhead

/-- Clean: `RXBUF = []` and `STATUS = 0x00` (R212). -/
abbrev Clean (s : State) : Prop := s.rxbuf = [] ∧ s.status = 0

/-- What every reachable state satisfies: the buffer is within its capacity (R11) and the reserved bits of `STATUS` are 0
(R12, R16). -/
abbrev StateInv (s : State) : Prop := Memory.wf s ∧ s.status &&& 0xF0 = 0

/-- A safe run so far: no event that the spec logs has happened since reset ("no flag set", R188), and the decoder is not
stuck (R203). -/
abbrev SafeRun (s : State) : Prop := s.readStatus = 0 ∧ ¬ Desynced s

/-- The event is a delivered frame. -/
def Machine.Event.carriesFrame : Event → Bool
  | .frameEvt _ _ _ _ => true
  | .ckErrEvt _ _ => false
  | .shortLenEvt _ => false
  | .needMoreEvt _ => false

/-- The event ends the decode loop. -/
def Machine.Event.isNeedMore : Event → Bool
  | .needMoreEvt _ => true
  | .frameEvt _ _ _ _ => false
  | .ckErrEvt _ _ => false
  | .shortLenEvt _ => false

/-- The completion hands a received frame to the host. -/
def Machine.Completion.carriesFrame : Completion → Bool
  | .parse (.frame _ _ _) => true
  | .parse (.needMoreData _) => false
  | .parse (.checksumError _ _) => false
  | .parse (.shortLength _) => false
  | .drain es => es.any Event.carriesFrame
  | .ok => false
  | .csum _ => false
  | .bytes _ => false
  | .payloadTooLong _ => false
  | .rxOverflow _ _ => false
  | .pdec _ => false

/-- The operations that act on the buffer other than `RESET` (R203). -/
def Instr.isBufferOp : Instr → Bool
  | .rxPush _ => true
  | .parse => true
  | .drain => true
  | _ => false

/-- The 23 `RXFRAME` rows without a decoder, each with its COMMAND byte. -/
def noDecoderRows (l t : Byte) (p : List Byte) (k : Byte) : List (Byte × Instr) :=
  [(Command.outputCtr.byte, .rxOutputCtr l t p k),
   (Command.tapTime.byte, .rxTapTime l t p k),
   (Command.delayTime.byte, .rxDelayTime l t p k),
   (Command.modbusAddress.byte, .rxModbusAddress l t p k),
   (Command.cycleTime.byte, .rxCycleTime l t p k),
   (Command.autoEnable.byte, .rxAutoEnable l t p k),
   (Command.auto1.byte, .rxAuto1 l t p k),
   (Command.auto2.byte, .rxAuto2 l t p k),
   (Command.auto3.byte, .rxAuto3 l t p k),
   (Command.auto4.byte, .rxAuto4 l t p k),
   (Command.auto5.byte, .rxAuto5 l t p k),
   (Command.auto6.byte, .rxAuto6 l t p k),
   (Command.auto7.byte, .rxAuto7 l t p k),
   (Command.auto8.byte, .rxAuto8 l t p k),
   (Command.auto9.byte, .rxAuto9 l t p k),
   (Command.auto10.byte, .rxAuto10 l t p k),
   (Command.auto11.byte, .rxAuto11 l t p k),
   (Command.auto12.byte, .rxAuto12 l t p k),
   (Command.auto13.byte, .rxAuto13 l t p k),
   (Command.auto14.byte, .rxAuto14 l t p k),
   (Command.auto15.byte, .rxAuto15 l t p k),
   (Command.auto16.byte, .rxAuto16 l t p k),
   (Command.typeResponse.byte, .rxTypeResponse l t p k)]

/-- The three `RXFRAME` rows with a decoder, each with its COMMAND byte. -/
def decoderRows (l t : Byte) (p : List Byte) (k : Byte) : List (Byte × Instr) :=
  [(Command.outputState.byte, .rxOutputState l t p k),
   (Command.inputState.byte, .rxInputState l t p k),
   (Command.deviceTime.byte, .rxDeviceTime l t p k)]

/-- The 26 named `RXFRAME` rows. -/
def namedRows (l t : Byte) (p : List Byte) (k : Byte) : List (Byte × Instr) :=
  decoderRows l t p k ++ noDecoderRows l t p k

end Sys2Proof
end

