-- ==== Sys2Proof/Certificates/Slice0/Obligations.lean ====
section
/-! DEFINITION. The statements for the provers, from the numbered rules of spec/. A result "handed to the host" is the last
entry of `results` (log 3). Where a clause rests on a decision the spec marks as its own (D<n> of 92_eei_decisions.md) or on
a log entry of this model, the docstring names it. -/

open Sys2Proof Sys2Proof.Machine

/-! ### Words and instructions -/

/-- Every well-formed instruction is read back from its words, every operand at every value its encoding admits (R50, R58,
R59, R68; the select values are the spec's D3, the operand port and the request formats this model's logs 1, 5 and 6). -/
def Obligations.DecodeEncodeWellFormed : Prop :=
  ∀ i : Instr, i.wf = true → decode (encode i) = .ok i

/-- A frame word is decoded without losing a bit: the instruction read from it has exactly these words, and a word sent out
is read only as a well-formed frame (R68, R95; logs 5 to 7). -/
def Obligations.EncodeDecodeFrames : Prop :=
  ∀ (i : Instr) (bytes : List Byte),
    (decode (.rx bytes) = .ok i → encode i = .rx bytes) ∧
    (decode (.tx bytes) = .ok i → encode i = .tx bytes ∧ i.wf = true)

/-- The eight values of the operation select name the eight operations; none is reserved (the spec's D3; the operand port is
log 1). -/
def Obligations.SelectNamesEightOperations : Prop :=
  ∀ (c : Byte) (b : List Byte) (sw : List Nat) (st : Bool),
    decode (.op ⟨0b000, c, b, sw, st⟩) = .ok (.csum b) ∧
    decode (.op ⟨0b001, c, b, sw, st⟩) = .ok (.encRead c b) ∧
    decode (.op ⟨0b010, c, b, sw, st⟩) = .ok (.encRelay c sw st) ∧
    decode (.op ⟨0b011, c, b, sw, st⟩) = .ok (.rxPush b) ∧
    decode (.op ⟨0b100, c, b, sw, st⟩) = .ok .parse ∧
    decode (.op ⟨0b101, c, b, sw, st⟩) = .ok .drain ∧
    decode (.op ⟨0b110, c, b, sw, st⟩) = .ok (.pdec c b) ∧
    decode (.op ⟨0b111, c, b, sw, st⟩) = .ok .reset

/-- Within the `RXFRAME` format the named rows are mutually exclusive: a header matches at most one (R68). -/
def Obligations.NamedRowsExclusive : Prop :=
  ∀ (c d : Command) (m n : String) (header : List Byte),
    (rxRow m c).matchesBytes header = true → (rxRow n d).matchesBytes header = true → c = d

/-- Every received header that starts with HEAD is classified by its COMMAND byte alone, whatever LENGTH, TYPE and the bytes
after it: its row matches it, and it is the catch-all exactly when the COMMAND byte is unnamed (R68, R117; the spec's D12
and D13). -/
def Obligations.ReceivedHeaderClassifiedByCommand : Prop :=
  ∀ (l t c : Byte) (p : List Byte) (k : Byte), ∃ i,
    decode (.rx ([0x6A, 0xA6, l, t, c] ++ p ++ [k])) = .ok i ∧
    (tableRow i).matchesBytes [0x6A, 0xA6, l, t, c] = true ∧
    (i = .rxUnnamed l t c p k ↔
      c ∉ ([0x01, 0x02, 0x03, 0x04, 0x05, 0x06, 0x07, 0x08, 0x0F, 0x10, 0x11, 0x12, 0x13, 0x14, 0x15, 0x16, 0x17, 0x18, 0x19,
        0x1A, 0x1B, 0x1C, 0x1D, 0x1E, 0x1F, 0xFF] : List Byte))

/-- A few words written out from the spec's encodings decode to the instructions they stand for (R58, R59, R60, R65;
examples of 95_test_vectors.md). The select is the spec's D3; that flag 01 is on and that the RELAY frame's TYPE is 01 are its
D10 and D11, which the model follows (log 10); the two frame request formats are this model's logs 5 and 6. -/
def Obligations.SampleWordsDecode : Prop :=
  decode (.op { op := 0b011, bytes := [0x03, 0xFE] }) = .ok (.rxPush [0x03, 0xFE]) ∧
  decode (.tx [0x6A, 0xA6, 0x03, 0xFE, 0x06, 0x07]) = .ok (.frameRead 0x06 []) ∧
  decode (.tx [0x6A, 0xA6, 0x06, 0x01, 0x01, 0x01, 0x01, 0x01, 0x0B]) = .ok (.frameRelay 0x01 true 0x01 0x01) ∧
  decode (.rx [0x6A, 0xA6, 0x05, 0xFF, 0x06, 0xFF, 0x00, 0x09]) = .ok (.rxOutputState 0x05 0xFF [0xFF, 0x00] 0x09) ∧
  decode (.rx [0x6A, 0xA6, 0x03, 0xFF, 0x09, 0x0B]) = .ok (.rxUnnamed 0x03 0xFF 0x09 [] 0x0B)

/-! ### The step -/

/-- A step runs the decoded instruction: the host's next request is taken off the queue and its instruction runs on the rest
of the state (R7, R8; the queue is log 2). -/
def Obligations.StepRunsDecodedInstruction : Prop :=
  ∀ (s : State) (r : Request) (rest : List Turn) (i : Instr),
    s.requests = .request r :: rest → decode r = .ok i → step s = exec i { s with requests := rest }

/-- The instruction that the opcode table's bits stand for is the one the very next step runs (log 15). -/
def Obligations.FetchedTableWordRuns : Prop :=
  ∀ (s : State) (nbits w : Nat) (i : Instr),
    decodeTableWord nbits w = some i → step (s.withFetchWord nbits w) = exec i s

/-- The codec never acts on its own: with nothing requested, and at an idle turn, nothing changes but the turn (R8, R187). -/
def Obligations.IdleStepChangesNothing : Prop :=
  ∀ (s : State) (rest : List Turn),
    (s.requests = [] → step s = .next s) ∧
    (s.requests = .idle :: rest → step s = .next { s with requests := rest })

/-- Two operations requested at once have no meaning: the step stops by name (R37; the spec's D28). -/
def Obligations.SimultaneousRequestsStop : Prop :=
  ∀ (s : State) (a b : Request) (rest : List Turn),
    s.requests = .simultaneous a b :: rest → step s = .refused .simultaneousRequests

/-- Words that are no instruction: received bytes are delivered and decoded all the same, a word the encoder never emits
stops by name (this model's log 7). -/
def Obligations.UndecodableWords : Prop :=
  ∀ (s : State) (rest : List Turn) (bytes : List Byte) (e : DecodeError),
    (s.requests = .request (.rx bytes) :: rest → decode (.rx bytes) = .error e →
      step s = runInstrs [.rxPush bytes, .drain] { s with requests := rest }) ∧
    (s.requests = .request (.tx bytes) :: rest → decode (.tx bytes) = .error e →
      step s = .refused (.undecodable e))

/-! ### The checksum calculator -/

/-- `CSUM` answers `(sum(b) - 16) mod 256`, the residue in 0 to 255, for every byte sequence, and changes nothing else (R80,
R81; the domain and the residue are the spec's D26 and D7). -/
def Obligations.CsumResult : Prop :=
  ∀ (b : List Byte) (s : State),
    exec (.csum b) s = .next { s with results := s.results ++ [.csum (checksum b)] } ∧
    ((checksum b).toNat : Int) = (((b.map BitVec.toNat).sum : Int) - 16) % 256

/-- The 8-bit accumulator that starts at `F0` and drops every carry gives the same byte (R82, which the spec derives from
R80 and R81). -/
def Obligations.CsumStreamingForm : Prop :=
  ∀ (b : List Byte) (s : State),
    exec (.csum b) s = .next { s with results := s.results ++ [.csum (b.foldl (fun acc x => acc + x) 0xF0#8)] }

/-- On a sequence that starts with HEAD the checksum is the plain sum of the rest modulo 256 (R83, which the spec derives
from R80 and R53). -/
def Obligations.HeadCancellation : Prop :=
  ∀ (t : List Byte) (s : State), ∃ k : Byte,
    exec (.csum (0x6A :: 0xA6 :: t)) s = .next { s with results := s.results ++ [.csum k] } ∧
    k.toNat = (t.map BitVec.toNat).sum % 256

/-- Two sequences that differ in exactly one byte have different checksums (R84, which the spec derives from R80 and R81). -/
def Obligations.SingleByteChangesChecksum : Prop :=
  ∀ (u v : List Byte) (x y : Byte) (s : State), x ≠ y → ∃ j k : Byte,
    exec (.csum (u ++ [x] ++ v)) s = .next { s with results := s.results ++ [.csum j] } ∧
    exec (.csum (u ++ [y] ++ v)) s = .next { s with results := s.results ++ [.csum k] } ∧ j ≠ k

/-! ### The frame encoder -/

/-- `ENC_READ` of at most 252 payload bytes answers HEAD, `len + 3`, `FE`, the command, the payload and the checksum of all
these; of a longer payload it answers `PayloadTooLong` and no bytes; nothing else changes (R90, R92; the refusal and the
unchecked command are the spec's D9 and D21). -/
def Obligations.EncReadFrame : Prop :=
  ∀ (c : Byte) (p : List Byte) (s : State),
    (p.length ≤ 252 → ∃ body : List Byte,
      body = [0x6A, 0xA6, BitVec.ofNat 8 (p.length + 3), 0xFE, c] ++ p ∧
      exec (.encRead c p) s = .next { s with results := s.results ++ [.bytes (body ++ [checksum body])] }) ∧
    (252 < p.length →
      exec (.encRead c p) s = .next { s with results := s.results ++ [.payloadTooLong p.length] })

/-- `ENC_RELAY` answers `6A A6 06 01`, the command, the flag, two mask bytes and the checksum; bit `n - 1` of the first mask
byte is switch `n` for 1 to 8, bit `n - 9` of the second is switch `n` for 9 to 16; every other index adds nothing (R61,
R91; payload order, flag polarity and TYPE are the spec's D10 and D11). -/
def Obligations.EncRelayFrame : Prop :=
  ∀ (c : Byte) (sw : List Nat) (st : Bool) (s : State), ∃ (m0 m1 : Byte) (body : List Byte),
    (∀ n, 1 ≤ n → n ≤ 8 → m0.getLsbD (n - 1) = decide (n ∈ sw)) ∧
    (∀ n, 9 ≤ n → n ≤ 16 → m1.getLsbD (n - 9) = decide (n ∈ sw)) ∧
    body = [0x6A, 0xA6, 0x06, 0x01, c, if st then 0x01 else 0x00, m0, m1] ∧
    exec (.encRelay c sw st) s = .next { s with results := s.results ++ [.bytes (body ++ [checksum body])] }

/-- Every frame an encoder returns is well-formed (R95, which the spec derives from R90 and R91). -/
def Obligations.EncodersEmitWellFormedFrames : Prop :=
  ∀ (c : Byte) (p : List Byte) (sw : List Nat) (st : Bool) (s : State),
    (p.length ≤ 252 → ∃ f, WellFormedFrame f ∧
      exec (.encRead c p) s = .next { s with results := s.results ++ [.bytes f] }) ∧
    ∃ f, WellFormedFrame f ∧ exec (.encRelay c sw st) s = .next { s with results := s.results ++ [.bytes f] }

/-- `FRAME_READ` of at most 252 payload bytes: the encoder emits exactly the row's own words; a longer payload is refused
with `PayloadTooLong` (what it means to run a frame row is this model's log 6; the refusal is the spec's D9). -/
def Obligations.FrameReadEmitsItsWords : Prop :=
  ∀ (c : Byte) (p : List Byte) (s : State),
    (p.length ≤ 252 → ∃ f, encode (.frameRead c p) = .tx f ∧ WellFormedFrame f ∧
      exec (.frameRead c p) s = .next { s with results := s.results ++ [.bytes f] }) ∧
    (252 < p.length →
      exec (.frameRead c p) s = .next { s with results := s.results ++ [.payloadTooLong p.length] })

/-- `FRAME_RELAY`: the encoder, given the switches that the two mask bytes name, emits exactly the row's own words (what it
means to run a frame row is this model's log 6; the payload order is the spec's D10). -/
def Obligations.FrameRelayEmitsItsWords : Prop :=
  ∀ (c : Byte) (st : Bool) (m0 m1 : Byte) (s : State), ∃ f,
    encode (.frameRelay c st m0 m1) = .tx f ∧ WellFormedFrame f ∧
    exec (.frameRelay c st m0 m1) s = .next { s with results := s.results ++ [.bytes f] }

/-- The host's three pseudo-operations: the frames they ask the encoder for (R67, R96 to R98). -/
def Obligations.PseudoOperationFrames : Prop :=
  ∀ s : State,
    exec pseudoOutputState s =
      .next { s with results := s.results ++ [.bytes [0x6A, 0xA6, 0x03, 0xFE, 0x06, 0x07]] } ∧
    exec pseudoInputState s =
      .next { s with results := s.results ++ [.bytes [0x6A, 0xA6, 0x03, 0xFE, 0x07, 0x08]] } ∧
    exec pseudoDeviceClock s =
      .next { s with results := s.results ++ [.bytes [0x6A, 0xA6, 0x03, 0xFE, 0x02, 0x03]] }

/-- `CSUM`, `ENC_READ`, `ENC_RELAY` and `PDEC` are functions of their operands alone: equal operands give the same result in
every state, and nothing but the answer changes (R10, R38, R94; R13 and R15 by the spec's D29 and D5). -/
def Obligations.PureOperationsReadNoState : Prop :=
  ∀ i : Instr, ((∃ b, i = .csum b) ∨ (∃ c p, i = .encRead c p) ∨ (∃ c sw st, i = .encRelay c sw st) ∨
      (∃ c p, i = .pdec c p)) →
    ∃ answer : Completion, ∀ s : State, exec i s = .next { s with results := s.results ++ [answer] }

/-! ### The receive buffer -/

/-- `RX_PUSH` that fits appends all of its bytes at the end, answers `Ok` and changes nothing else: always with an unbounded
buffer, and with a bounded one when buffered and pushed bytes together are within the capacity (R110; the bound is the
spec's D4). -/
def Obligations.RxPushAppends : Prop :=
  ∀ (bs : List Byte) (s : State),
    (s.rxcap = .infinite ∨ ∃ e, s.rxcap = .bounded e ∧ s.rxbuf.length + bs.length ≤ 258 + e) →
    exec (.rxPush bs) s = .next { s with rxbuf := s.rxbuf ++ bs, results := s.results ++ [.ok] }

/-- `RX_PUSH` that would exceed the capacity appends nothing, sets `RXOVF` and answers `RxOverflow` with both lengths (R110,
R36; the outcome is the spec's D4, the flag its D5). -/
def Obligations.RxPushOverflow : Prop :=
  ∀ (bs : List Byte) (s : State) (e : Nat),
    s.rxcap = .bounded e → 258 + e < s.rxbuf.length + bs.length →
    exec (.rxPush bs) s = .next { s with
      status := s.status ||| 0x08, results := s.results ++ [.rxOverflow s.rxbuf.length bs.length] }

/-! ### PARSE -/

/-- `NeedMoreData`: with fewer than 3 bytes, with a wrong head, and with an incomplete frame, `PARSE` consumes nothing and
changes nothing but, in the second case, `DESYNC`; a second `PARSE` answers the same again and leaves the same state
(R113). That a head is looked at only when 3 bytes are buffered, so that fewer answer `desync` false and set no flag, that a
wrong head consumes nothing, and the `desync` mark are the spec's D14 (R116), which the model follows (log 9). -/
def Obligations.ParseNeedMoreData : Prop :=
  ∀ s : State,
    (s.rxbuf.length < 3 →
      exec .parse s = .next { s with results := s.results ++ [.parse (.needMoreData false)] } ∧
      runInstrs [.parse, .parse] s = .next { s with
        results := s.results ++ [.parse (.needMoreData false), .parse (.needMoreData false)] }) ∧
    (∀ b0 b1 b2 rest, s.rxbuf = b0 :: b1 :: b2 :: rest → (b0 ≠ 0x6A ∨ b1 ≠ 0xA6) →
      exec .parse s = .next { s with
        status := s.status ||| 0x01, results := s.results ++ [.parse (.needMoreData true)] } ∧
      runInstrs [.parse, .parse] s = .next { s with
        status := s.status ||| 0x01,
        results := s.results ++ [.parse (.needMoreData true), .parse (.needMoreData true)] }) ∧
    (∀ l rest, s.rxbuf = 0x6A :: 0xA6 :: l :: rest → rest.length < l.toNat →
      exec .parse s = .next { s with results := s.results ++ [.parse (.needMoreData false)] } ∧
      runInstrs [.parse, .parse] s = .next { s with
        results := s.results ++ [.parse (.needMoreData false), .parse (.needMoreData false)] })

/-- `ChecksumError`: HEAD, a LENGTH of at least 3, the whole declared frame, and a last byte that is not the checksum of the
bytes before it: the whole declared frame is consumed, `CKERR` is set, no frame is delivered and what follows stays (R114). -/
def Obligations.ParseChecksumError : Prop :=
  ∀ (s : State) (l : Byte) (body : List Byte) (k : Byte) (rest : List Byte),
    s.rxbuf = [0x6A, 0xA6, l] ++ body ++ [k] ++ rest → 3 ≤ l.toNat → body.length + 1 = l.toNat →
    checksum ([0x6A, 0xA6, l] ++ body) ≠ k →
    exec .parse s = .next { s with
      rxbuf := rest, status := s.status ||| 0x02,
      results := s.results ++ [.parse (.checksumError (checksum ([0x6A, 0xA6, l] ++ body)) k)] }

/-- A whole frame with a good checksum at the buffer's start, whatever its TYPE and COMMAND: `PARSE` delivers TYPE, COMMAND
and PAYLOAD, consumes exactly the frame and changes no flag (R111; TYPE and COMMAND unchecked are the spec's D12 and D13). -/
def Obligations.ParseDeliversFrame : Prop :=
  ∀ (s : State) (l t c : Byte) (p rest : List Byte),
    p.length + 3 = l.toNat →
    s.rxbuf = [0x6A, 0xA6, l, t, c] ++ p ++ [checksum ([0x6A, 0xA6, l, t, c] ++ p)] ++ rest →
    exec .parse s = .next { s with rxbuf := rest, results := s.results ++ [.parse (.frame t c p)] }

/-- `ShortLength`: a LENGTH of 0, 1 or 2 with the declared bytes present: they are consumed, `SHORTLEN` is set and no
checksum is tested (R115, which is the spec's D8). -/
def Obligations.ParseShortLength : Prop :=
  ∀ (s : State) (l : Byte) (body rest : List Byte),
    s.rxbuf = [0x6A, 0xA6, l] ++ body ++ rest → l.toNat < 3 → body.length = l.toNat →
    exec .parse s = .next { s with
      rxbuf := rest, status := s.status ||| 0x04, results := s.results ++ [.parse (.shortLength l)] }

/-- In every state `PARSE` completes, and its outcome says what it did to the buffer and to `STATUS`, as the table of
R182 has it; nothing else changes (R111, R182; `ShortLength` is the spec's D8, desync its D14). -/
def Obligations.ParseOutcomeEffects : Prop :=
  ∀ s : State, ∃ (r : ParseResult) (t : State),
    exec .parse s = .next t ∧ t.results = s.results ++ [.parse r] ∧ t.rxcap = s.rxcap ∧ t.requests = s.requests ∧
    (match r with
     | .frame _ _ _ =>
       (byteAt s.rxbuf 2).toNat + 3 ≤ s.rxbuf.length ∧ t.rxbuf = s.rxbuf.drop ((byteAt s.rxbuf 2).toNat + 3) ∧
         t.status = s.status
     | .needMoreData d => t.rxbuf = s.rxbuf ∧ t.status = if d then s.status ||| 0x01 else s.status
     | .checksumError _ _ =>
       (byteAt s.rxbuf 2).toNat + 3 ≤ s.rxbuf.length ∧ t.rxbuf = s.rxbuf.drop ((byteAt s.rxbuf 2).toNat + 3) ∧
         t.status = s.status ||| 0x02
     | .shortLength _ =>
       (byteAt s.rxbuf 2).toNat + 3 ≤ s.rxbuf.length ∧ t.rxbuf = s.rxbuf.drop ((byteAt s.rxbuf 2).toNat + 3) ∧
         t.status = s.status ||| 0x04)

/-- One changed byte among TYPE, COMMAND and PAYLOAD of a well-formed frame at the buffer's start: `PARSE` drops exactly that
frame with `ChecksumError` and the decoder stays in step (R120 and R84, which the spec derives). -/
def Obligations.CorruptedByteDropped : Prop :=
  ∀ (s : State) (l x y k : Byte) (u v rest : List Byte),
    WellFormedFrame ([0x6A, 0xA6, l] ++ u ++ [x] ++ v ++ [k]) → x ≠ y →
    s.rxbuf = [0x6A, 0xA6, l] ++ u ++ [y] ++ v ++ [k] ++ rest →
    ∃ c : Byte, c ≠ k ∧ exec .parse s = .next { s with
      rxbuf := rest, status := s.status ||| 0x02, results := s.results ++ [.parse (.checksumError c k)] }

/-! ### DRAIN -/

/-- `DRAIN` is the decode loop: from the outcome of `PARSE` in the same state, either that one last event, or the event of
that outcome (a frame with its `PDEC` result) followed by what `DRAIN` answers in the state `PARSE` left (R112; the events
are the spec's D19). -/
def Obligations.DrainIsParseLoop : Prop :=
  ∀ (s t : State) (r : ParseResult),
    exec .parse s = .next t → t.results = s.results ++ [.parse r] →
    (match r with
     | .needMoreData d => exec .drain s = .next { t with results := s.results ++ [.drain [.needMoreEvt d]] }
     | .frame ty c p => ∃ (u : State) (es : List Event),
       exec .drain { t with results := s.results } = .next u ∧ u.results = s.results ++ [.drain es] ∧
       exec .drain s = .next { u with results := s.results ++ [.drain (.frameEvt ty c p (pdec c p) :: es)] }
     | .checksumError a b => ∃ (u : State) (es : List Event),
       exec .drain { t with results := s.results } = .next u ∧ u.results = s.results ++ [.drain es] ∧
       exec .drain s = .next { u with results := s.results ++ [.drain (.ckErrEvt a b :: es)] }
     | .shortLength l => ∃ (u : State) (es : List Event),
       exec .drain { t with results := s.results } = .next u ∧ u.results = s.results ++ [.drain es] ∧
       exec .drain s = .next { u with results := s.results ++ [.drain (.shortLenEvt l :: es)] })

/-- `DRAIN` completes in every state and leaves the codec quiescent: its last event is `NeedMoreEvt` and no other is, it
delivers at most one event for 3 buffered bytes before it, it removes at most a prefix of the buffer, and nothing but
buffer, flags and answer changes (R112, R212; the event list is the spec's D19). -/
def Obligations.DrainEndsQuiescent : Prop :=
  ∀ s : State, ∃ (t : State) (es : List Event) (d : Bool),
    exec .drain s = .next t ∧ t.results = s.results ++ [.drain (es ++ [.needMoreEvt d])] ∧
    (∀ e ∈ es, e.isNeedMore = false) ∧ 3 * es.length ≤ s.rxbuf.length ∧ Quiescent t ∧
    (∃ k, t.rxbuf = s.rxbuf.drop k) ∧ t.rxcap = s.rxcap ∧ t.requests = s.requests

/-- Whole well-formed frames, any number of them, pushed into an empty buffer and drained: every one is delivered with its
`PDEC` result, in the order received, and buffer and flags are as before (R40, R212; the events are the spec's D19). -/
def Obligations.DrainDeliversWholeFrames : Prop :=
  ∀ (frames : List (Byte × Byte × List Byte)) (s : State) (bytes : List Byte),
    (∀ f ∈ frames, f.2.2.length ≤ 252) →
    bytes = frames.flatMap (fun f => frameBytes f.1 f.2.1 f.2.2) →
    s.rxbuf = [] → s.rxcap.admits bytes.length = true →
    runInstrs [.rxPush bytes, .drain] s = .next { s with
      results := s.results ++
        [.ok, .drain (frames.map (fun f => .frameEvt f.1 f.2.1 f.2.2 (pdec f.2.1 f.2.2)) ++ [.needMoreEvt false])] }

/-- Round trip: what either encoder returns, pushed into an empty buffer and parsed, gives back TYPE, command and payload, and
leaves buffer and flags as before (R93, which the spec derives from R90, R91 and R111; payload order by its D10). -/
def Obligations.EncodeParseRoundTrip : Prop :=
  ∀ (c : Byte) (p : List Byte) (sw : List Nat) (st : Bool) (s : State), s.rxbuf = [] →
    (p.length ≤ 252 → ∃ f,
      exec (.encRead c p) s = .next { s with results := s.results ++ [.bytes f] } ∧
      runInstrs [.rxPush f, .parse] s =
        .next { s with results := s.results ++ [.ok, .parse (.frame 0xFE c p)] }) ∧
    ∃ f m0 m1,
      exec (.encRelay c sw st) s = .next { s with results := s.results ++ [.bytes f] } ∧
      (∀ n, 1 ≤ n → n ≤ 8 → m0.getLsbD (n - 1) = decide (n ∈ sw)) ∧
      (∀ n, 9 ≤ n → n ≤ 16 → m1.getLsbD (n - 9) = decide (n ∈ sw)) ∧
      runInstrs [.rxPush f, .parse] s = .next { s with
        results := s.results ++ [.ok, .parse (.frame 0x01 c [if st then 0x01 else 0x00, m0, (m1 : Byte)])] }

/-- Fragmentation invariance: delivering a byte sequence whole or cut in two, with a `DRAIN` after each delivery, gives the
same events but for the cut's own `NeedMoreEvt`, the same last event, the same buffer and the same flags (R41, which the
spec derives from R111 and R112). -/
def Obligations.FragmentationInvariance : Prop :=
  ∀ (s : State) (s1 s2 : List Byte),
    s.rxcap.admits (s.rxbuf.length + (s1 ++ s2).length) = true →
    ∃ (ta tb : State) (e1 e2 : List Event) (d1 d : Bool),
      runInstrs [.rxPush (s1 ++ s2), .drain] s = .next ta ∧
      runInstrs [.rxPush s1, .drain, .rxPush s2, .drain] s = .next tb ∧
      ta.results = s.results ++ [.ok, .drain ((e1 ++ e2) ++ [.needMoreEvt d])] ∧
      tb.results = s.results ++
        [.ok, .drain (e1 ++ [.needMoreEvt d1]), .ok, .drain (e2 ++ [.needMoreEvt d])] ∧
      (∀ e ∈ e1 ++ e2, e.isNeedMore = false) ∧
      ta.rxbuf = tb.rxbuf ∧ ta.status = tb.status

/-- Desync is permanent: from a desynchronised state, however many `RX_PUSH`, `PARSE` and `DRAIN` run, the codec stays
desynchronised, its first bytes stay where they are and no frame is handed to the host (R203, which the spec derives from
R110, R111 and R116; detection by its D14). -/
def Obligations.DesyncIsPermanent : Prop :=
  ∀ (ops : List Instr) (s : State), Desynced s → (∀ i ∈ ops, i.isBufferOp = true) →
    ∃ (t : State) (answers : List Completion) (more : List Byte),
      runInstrs ops s = .next t ∧ Desynced t ∧ t.rxbuf = s.rxbuf ++ more ∧
      t.results = s.results ++ answers ∧ ∀ a ∈ answers, a.carriesFrame = false

/-! ### PDEC -/

/-- OUTPUT_STATE: exactly 2 payload bytes give the switch map, switch 1 to 8 from the first byte and 9 to 16 from the second,
the lower switch at the less significant bit; any other length is a `DecodeError` (R141). -/
def Obligations.PdecOutputState : Prop :=
  ∀ (b0 b1 : Byte) (p : List Byte) (s : State),
    (∃ v : BitVec 16,
      exec (.pdec 0x06 [b0, b1]) s = .next { s with results := s.results ++ [.pdec (.switchMap v)] } ∧
      (∀ i, 1 ≤ i → i ≤ 8 → v.getLsbD (i - 1) = b0.getLsbD (i - 1)) ∧
      (∀ i, 9 ≤ i → i ≤ 16 → v.getLsbD (i - 1) = b1.getLsbD (i - 9))) ∧
    (p.length ≠ 2 →
      exec (.pdec 0x06 p) s = .next { s with results := s.results ++ [.pdec (.decodeError 0x06 2 p.length)] })

/-- INPUT_STATE: as OUTPUT_STATE but for the command byte (R142). -/
def Obligations.PdecInputState : Prop :=
  ∀ (b0 b1 : Byte) (p : List Byte) (s : State),
    (∃ v : BitVec 16,
      exec (.pdec 0x07 [b0, b1]) s = .next { s with results := s.results ++ [.pdec (.switchMap v)] } ∧
      (∀ i, 1 ≤ i → i ≤ 8 → v.getLsbD (i - 1) = b0.getLsbD (i - 1)) ∧
      (∀ i, 9 ≤ i → i ≤ 16 → v.getLsbD (i - 1) = b1.getLsbD (i - 9))) ∧
    (p.length ≠ 2 →
      exec (.pdec 0x07 p) s = .next { s with results := s.results ++ [.pdec (.decodeError 0x07 2 p.length)] })

/-- DEVICE_TIME: exactly 6 payload bytes give the clock, the year `2018 +` the first byte without wrap, the others as they
stand; any other length is a `DecodeError` (R143). -/
def Obligations.PdecDeviceTime : Prop :=
  ∀ (y mo d h mi se : Byte) (p : List Byte) (s : State),
    (∃ year : BitVec 12, year.toNat = y.toNat + 2018 ∧
      exec (.pdec 0x02 [y, mo, d, h, mi, se]) s = .next { s with
        results := s.results ++ [.pdec (.deviceClock ⟨year, mo, d, h, mi, se⟩)] }) ∧
    (p.length ≠ 6 →
      exec (.pdec 0x02 p) s = .next { s with results := s.results ++ [.pdec (.decodeError 0x02 6 p.length)] })

/-- The 23 named commands without a decoder: `NoDecoder` with the command, whatever the payload, and nothing else changes
(R144 to R151). -/
def Obligations.PdecNoDecoder : Prop :=
  ∀ c ∈ ([0x01, 0x03, 0x04, 0x05, 0x08, 0x0F, 0x10, 0x11, 0x12, 0x13, 0x14, 0x15, 0x16, 0x17, 0x18, 0x19, 0x1A, 0x1B,
      0x1C, 0x1D, 0x1E, 0x1F, 0xFF] : List Byte), ∀ (p : List Byte) (s : State),
    exec (.pdec c p) s = .next { s with results := s.results ++ [.pdec (.noDecoder c)] }

/-- Every other command byte (`00`, `09` to `0E`, `20` to `FE`): `UnknownCommand`, whatever the payload (R152, which is the
spec's D13). -/
def Obligations.PdecUnknownCommand : Prop :=
  ∀ (c : Byte) (p : List Byte) (s : State),
    (c.toNat = 0 ∨ (9 ≤ c.toNat ∧ c.toNat ≤ 14) ∨ (32 ≤ c.toNat ∧ c.toNat ≤ 254)) →
    exec (.pdec c p) s = .next { s with results := s.results ++ [.pdec (.unknownCommand c)] }

/-! ### RESET, STATUS and the whole machine -/

/-- `RESET` empties the buffer, clears `STATUS`, answers `Ok` and leaves the host's side alone (R160, which is the spec's
D6). -/
def Obligations.ResetOperation : Prop :=
  ∀ s : State, exec .reset s = .next { s with rxbuf := [], status := 0x00, results := s.results ++ [.ok] }

/-- The state after reset has an empty buffer and a clear `STATUS`; from it `PARSE` and `DRAIN` answer `NeedMoreData(false)`
and change nothing else (R20, R201, which are the spec's D6). -/
def Obligations.ResetStateValues : Prop :=
  Clean State.reset ∧
  exec .parse State.reset = .next { State.reset with results := [.parse (.needMoreData false)] } ∧
  exec .drain State.reset = .next { State.reset with results := [.drain [.needMoreEvt false]] }

/-- Every step keeps the buffer within its capacity and the reserved bits of `STATUS` at 0 (R11, R12, R16). -/
def Obligations.StepKeepsInvariant : Prop :=
  ∀ s t : State, StateInv s → step s = .next t → StateInv t

/-- The reset state satisfies the invariant (R20; whatever `RXCAP` is). -/
def Obligations.ResetSatisfiesInvariant : Prop := StateInv State.reset

/-- In every state every instruction completes: no outcome halts the codec; the capacity and the host's coming requests are
untouched and what the host has been answered stays (R188, R182). -/
def Obligations.EveryInstructionCompletes : Prop :=
  ∀ (i : Instr) (s : State), ∃ (t : State) (answers : List Completion),
    exec i s = .next t ∧ t.rxcap = s.rxcap ∧ t.requests = s.requests ∧ t.results = s.results ++ answers ∧ answers ≠ []

/-- The flags are sticky: no instruction but `RESET` clears a bit of `STATUS`, and none sets a reserved one (R12, R188; the
flags are the spec's D5). -/
def Obligations.FlagsAreSticky : Prop :=
  ∀ (i : Instr) (s t : State) (k : Nat), i ≠ .reset → exec i s = .next t →
    (s.status.getLsbD k = true → t.status.getLsbD k = true) ∧
    (4 ≤ k → t.status.getLsbD k = s.status.getLsbD k)

/-- Flags and answers are write-only for the codec: two states that agree on buffer and capacity are left with the same
buffer and given the same answers by every instruction, whatever their flags, their earlier answers and their coming
requests are (R13, R15, by the spec's D29 and D5). -/
def Obligations.OutcomeDependsOnBufferOnly : Prop :=
  ∀ (i : Instr) (s u : State), s.rxbuf = u.rxbuf → s.rxcap = u.rxcap →
    ∃ (t v : State) (answers : List Completion),
      exec i s = .next t ∧ exec i u = .next v ∧ t.rxbuf = v.rxbuf ∧
      t.results = s.results ++ answers ∧ v.results = u.results ++ answers

/-- The read port of `STATUS`: bits 7 to 4 read as 0 in every state, bits 0 to 3 as the flags are, and in a state that meets
the invariant the whole register (R12, R16, R161, by the spec's D5). -/
def Obligations.StatusReadPort : Prop :=
  ∀ (s : State),
    (∀ k, 4 ≤ k → s.readStatus.getLsbD k = false) ∧
    s.readStatus.getLsbD 0 = s.flag .desync ∧ s.readStatus.getLsbD 1 = s.flag .ckerr ∧
    s.readStatus.getLsbD 2 = s.flag .shortlen ∧ s.readStatus.getLsbD 3 = s.flag .rxovf ∧
    (StateInv s → s.readStatus = s.status)

/-- The outcome codes (R170; the numbers are the spec's D18). -/
def Obligations.OutcomeCodes : Prop :=
  ∀ (t c x y l : Byte) (p : List Byte) (m n : Nat) (es : List Event) (v : BitVec 16) (k : DeviceClock),
    outcomeCode .ok = 0 ∧ outcomeCode (.csum x) = 0 ∧ outcomeCode (.bytes p) = 0 ∧ outcomeCode (.drain es) = 0 ∧
    outcomeCode (.parse (.frame t c p)) = 0 ∧ outcomeCode (.pdec (.switchMap v)) = 0 ∧
    outcomeCode (.pdec (.deviceClock k)) = 0 ∧
    outcomeCode (.parse (.needMoreData false)) = 1 ∧ outcomeCode (.parse (.needMoreData true)) = 2 ∧
    outcomeCode (.parse (.checksumError x y)) = 3 ∧ outcomeCode (.parse (.shortLength l)) = 4 ∧
    outcomeCode (.pdec (.decodeError c m n)) = 5 ∧ outcomeCode (.pdec (.noDecoder c)) = 6 ∧
    outcomeCode (.pdec (.unknownCommand c)) = 7 ∧ outcomeCode (.payloadTooLong n) = 8 ∧
    outcomeCode (.rxOverflow m n) = 9

/-! ### The RXFRAME rows -/

/-- `RX_OUTPUT_STATE`, `RX_INPUT_STATE` and `RX_DEVICE_TIME` (rxOutputState, rxInputState, rxDeviceTime): a well-formed frame
of the row received into an empty buffer is delivered with TYPE, COMMAND, PAYLOAD and the `PDEC` result of its command,
consumed whole, and no flag changes (R111, R112, R141 to R143; what it means to run a frame row is this model's log 5). -/
def Obligations.DecodedRowsDeliverResult : Prop :=
  ∀ (l t : Byte) (p : List Byte) (k : Byte) (s : State), s.rxbuf = [] →
    ((Instr.rxOutputState l t p k).wf = true → exec (.rxOutputState l t p k) s = .next { s with
      results := s.results ++ [.ok, .drain [.frameEvt t 0x06 p (pdec 0x06 p), .needMoreEvt false]] }) ∧
    ((Instr.rxInputState l t p k).wf = true → exec (.rxInputState l t p k) s = .next { s with
      results := s.results ++ [.ok, .drain [.frameEvt t 0x07 p (pdec 0x07 p), .needMoreEvt false]] }) ∧
    ((Instr.rxDeviceTime l t p k).wf = true → exec (.rxDeviceTime l t p k) s = .next { s with
      results := s.results ++ [.ok, .drain [.frameEvt t 0x02 p (pdec 0x02 p), .needMoreEvt false]] })

/-- The 23 `RXFRAME` rows without a decoder (rxOutputCtr, rxTapTime, rxDelayTime, rxModbusAddress, rxCycleTime, rxAutoEnable,
rxAuto1 to rxAuto16, rxTypeResponse): a well-formed frame of the row received into an empty buffer is delivered with
`NoDecoder` of its command, whatever its payload, consumed whole, and no flag changes (R112, R144 to R151; log 5). -/
def Obligations.UndecodedRowsDeliverNoDecoder : Prop :=
  ∀ (l t : Byte) (p : List Byte) (k : Byte) (s : State), s.rxbuf = [] →
    ∀ row ∈ ([(0x01, .rxOutputCtr l t p k), (0x03, .rxTapTime l t p k), (0x04, .rxDelayTime l t p k),
        (0x05, .rxModbusAddress l t p k), (0x08, .rxCycleTime l t p k), (0x0F, .rxAutoEnable l t p k),
        (0x10, .rxAuto1 l t p k), (0x11, .rxAuto2 l t p k), (0x12, .rxAuto3 l t p k), (0x13, .rxAuto4 l t p k),
        (0x14, .rxAuto5 l t p k), (0x15, .rxAuto6 l t p k), (0x16, .rxAuto7 l t p k), (0x17, .rxAuto8 l t p k),
        (0x18, .rxAuto9 l t p k), (0x19, .rxAuto10 l t p k), (0x1A, .rxAuto11 l t p k), (0x1B, .rxAuto12 l t p k),
        (0x1C, .rxAuto13 l t p k), (0x1D, .rxAuto14 l t p k), (0x1E, .rxAuto15 l t p k), (0x1F, .rxAuto16 l t p k),
        (0xFF, .rxTypeResponse l t p k)] : List (Byte × Instr)),
      row.2.wf = true → exec row.2 s = .next { s with
        results := s.results ++ [.ok, .drain [.frameEvt t row.1 p (.noDecoder row.1), .needMoreEvt false]] }

/-- `RX_UNNAMED` (rxUnnamed): a well-formed frame with an unnamed COMMAND received into an empty buffer is delivered with
`UnknownCommand`, consumed whole, and no flag changes (R112; R152 by the spec's D13; log 5). -/
def Obligations.UnnamedRowDeliversUnknown : Prop :=
  ∀ (l t c : Byte) (p : List Byte) (k : Byte) (s : State), s.rxbuf = [] → (Instr.rxUnnamed l t c p k).wf = true →
    exec (.rxUnnamed l t c p k) s = .next { s with
      results := s.results ++ [.ok, .drain [.frameEvt t c p (.unknownCommand c), .needMoreEvt false]] }

/-- A received frame of any of the 27 rows whose LENGTH fits and whose CHECKSUM field is wrong: it is dropped whole with a
checksum error, `CKERR` is set, `PDEC` is not run (R112, R114; log 5). -/
def Obligations.RowsWithWrongChecksumDropped : Prop :=
  ∀ (l t c : Byte) (p : List Byte) (k : Byte) (s : State), s.rxbuf = [] → p.length + 3 = l.toNat →
    ∀ row ∈ (c, Instr.rxUnnamed l t c p k) :: namedRows l t p k,
      checksum ([0x6A, 0xA6, l, t, row.1] ++ p) ≠ k →
      exec row.2 s = .next { s with
        status := s.status ||| 0x02,
        results := s.results ++
          [.ok, .drain [.ckErrEvt (checksum ([0x6A, 0xA6, l, t, row.1] ++ p)) k, .needMoreEvt false]] }

/-- In every state, a received frame of any of the 27 rows is what `RX_PUSH` of its bytes and then `DRAIN` do (log 5). -/
def Obligations.RowsArePushThenDrain : Prop :=
  ∀ (l t c : Byte) (p : List Byte) (k : Byte) (s : State),
    ∀ row ∈ (c, Instr.rxUnnamed l t c p k) :: namedRows l t p k,
      exec row.2 s = runInstrs [.rxPush ([0x6A, 0xA6, l, t, row.1] ++ p ++ [k]), .drain] s
end

