-- ==== Sys2Proof/Laws/State.lean ====
section
/-! SUPPORT. One lemma per field per update of State, so that no proof unfolds a record update. -/

namespace Sys2Proof.Machine

section
variable (s : State) (f : StatusFlag) (bs : List Byte) (k : Nat) (c : Completion) (rest : List Turn)

@[simp] theorem setFlag_rxbuf : (s.setFlag f).rxbuf = s.rxbuf := rfl
@[simp] theorem setFlag_status : (s.setFlag f).status = s.status ||| flagMask f := rfl
@[simp] theorem setFlag_rxcap : (s.setFlag f).rxcap = s.rxcap := rfl
@[simp] theorem setFlag_requests : (s.setFlag f).requests = s.requests := rfl
@[simp] theorem setFlag_results : (s.setFlag f).results = s.results := rfl

@[simp] theorem rxConsume_rxbuf : (s.rxConsume k).rxbuf = s.rxbuf.drop k := rfl
@[simp] theorem rxConsume_status : (s.rxConsume k).status = s.status := rfl
@[simp] theorem rxConsume_rxcap : (s.rxConsume k).rxcap = s.rxcap := rfl
@[simp] theorem rxConsume_requests : (s.rxConsume k).requests = s.requests := rfl
@[simp] theorem rxConsume_results : (s.rxConsume k).results = s.results := rfl

@[simp] theorem rxAppend_rxbuf : (s.rxAppend bs).rxbuf = s.rxbuf ++ bs := rfl
@[simp] theorem rxAppend_status : (s.rxAppend bs).status = s.status := rfl
@[simp] theorem rxAppend_rxcap : (s.rxAppend bs).rxcap = s.rxcap := rfl
@[simp] theorem rxAppend_requests : (s.rxAppend bs).requests = s.requests := rfl
@[simp] theorem rxAppend_results : (s.rxAppend bs).results = s.results := rfl

@[simp] theorem rxClear_rxbuf : s.rxClear.rxbuf = [] := rfl
@[simp] theorem rxClear_status : s.rxClear.status = s.status := rfl
@[simp] theorem rxClear_rxcap : s.rxClear.rxcap = s.rxcap := rfl
@[simp] theorem rxClear_requests : s.rxClear.requests = s.requests := rfl
@[simp] theorem rxClear_results : s.rxClear.results = s.results := rfl

@[simp] theorem deliver_rxbuf : (s.deliver c).rxbuf = s.rxbuf := rfl
@[simp] theorem deliver_status : (s.deliver c).status = s.status := rfl
@[simp] theorem deliver_rxcap : (s.deliver c).rxcap = s.rxcap := rfl
@[simp] theorem deliver_requests : (s.deliver c).requests = s.requests := rfl
@[simp] theorem deliver_results : (s.deliver c).results = s.results ++ [c] := rfl

@[simp] theorem withRequests_rxbuf : (s.withRequests rest).rxbuf = s.rxbuf := rfl
@[simp] theorem withRequests_status : (s.withRequests rest).status = s.status := rfl
@[simp] theorem withRequests_rxcap : (s.withRequests rest).rxcap = s.rxcap := rfl
@[simp] theorem withRequests_requests : (s.withRequests rest).requests = rest := rfl
@[simp] theorem withRequests_results : (s.withRequests rest).results = s.results := rfl

@[simp] theorem reset_rxbuf : State.reset.rxbuf = [] := rfl
@[simp] theorem reset_status : State.reset.status = 0 := rfl
@[simp] theorem reset_requests : State.reset.requests = [] := rfl
@[simp] theorem reset_results : State.reset.results = [] := rfl

end

end Sys2Proof.Machine
end

