-- ==== Sys2Proof/Laws/Ops.lean ====
section
/-! SUPPORT. What each shared operation over the receive buffer can do, said once; every memory operation keeps
`Memory.wf`. -/

namespace Sys2Proof

/-- Every capacity admits a whole frame (R6). -/
theorem admits_of_le_maxFrame (cap : RxCap) {n : Nat} (h : n ≤ 258) : cap.admits n = true := by
  simp [RxCap.admits, Config.maxFrame, h]

/-- A capacity that admits a length admits every shorter one. -/
theorem admits_of_le (cap : RxCap) {m n : Nat} (h : m ≤ n) (hn : cap.admits n = true) : cap.admits m = true := by
  cases cap with
  | infinite => simp [RxCap.admits]
  | bounded e =>
    simp only [RxCap.admits, Bool.or_eq_true, decide_eq_true_eq] at hn ⊢
    omega

@[simp] theorem admits_infinite (n : Nat) : RxCap.infinite.admits n = true := by simp [RxCap.admits]

@[simp] theorem admits_bounded (e n : Nat) : (RxCap.bounded e).admits n = decide (n ≤ 258 + e) := by
  by_cases hn : n ≤ 258
  · rw [admits_of_le_maxFrame _ hn, eq_comm, decide_eq_true_eq]
    omega
  · have h : (RxCap.bounded e).admits n = (decide (n ≤ 258) || decide (n ≤ 258 + e)) := rfl
    rw [h, decide_eq_false hn, Bool.false_or]

end Sys2Proof

namespace Sys2Proof.Machine

/-- The primitives keep the buffer within its capacity (R11). -/
theorem wf_rxConsume (k : Nat) {s : State} (h : Memory.wf s) : Memory.wf (s.rxConsume k) :=
  admits_of_le _ (by simp) h

theorem wf_rxAppend {bs : List Byte} {s : State} (h : s.rxFits bs = true) : Memory.wf (s.rxAppend bs) := by
  simpa [Memory.wf, State.rxFits, State.rxLen] using h

theorem wf_rxClear (s : State) : Memory.wf s.rxClear := admits_of_le_maxFrame _ (by simp)

theorem wf_setFlag (f : StatusFlag) {s : State} (h : Memory.wf s) : Memory.wf (s.setFlag f) := h

theorem wf_deliver (c : Completion) {s : State} (h : Memory.wf s) : Memory.wf (s.deliver c) := h

theorem wf_withRequests (rest : List Turn) {s : State} (h : Memory.wf s) : Memory.wf (s.withRequests rest) := h

theorem wf_reset : Memory.wf State.reset := admits_of_le_maxFrame _ (by simp)

/-- `RX_PUSH`: all of the bytes appended, or the refusal of R110. -/
theorem rxPush_cases (bs : List Byte) (s : State) :
    (s.rxFits bs = true ∧ rxPush bs s = (.ok, s.rxAppend bs)) ∨
    (s.rxFits bs = false ∧ rxPush bs s = (.rxOverflow s.rxbuf.length bs.length, s.setFlag .rxovf)) := by
  cases h : s.rxFits bs with
  | true => exact .inl ⟨rfl, by simp [rxPush, h]⟩
  | false => exact .inr ⟨rfl, by simp [rxPush, h, raiseOutcome, State.rxLen]⟩

theorem wf_rxPush (bs : List Byte) {s : State} (h : Memory.wf s) : Memory.wf (rxPush bs s).2 := by
  obtain ⟨hf, he⟩ | ⟨-, he⟩ := rxPush_cases bs s
  · rw [he]; exact wf_rxAppend hf
  · rw [he]; exact wf_setFlag _ h

end Sys2Proof.Machine
end

