-- ==== Sys2Proof/Laws/Decoder.lean ====
section
/-! SUPPORT. What `PARSE` and `DRAIN` can do, said once: the outcomes of a sliced frame, the four ways a `PARSE` goes, the
decode loop as an equation without fuel, and an induction over it. -/

namespace Sys2Proof.Machine

/-- The three outcomes of a sliced frame, each with the one flag it sets (R114, R115, R182). -/
theorem checkFrame_cases (f : List Byte) (s : State) :
    ((byteAt f 2).toNat < 3 ∧ checkFrame f s = (.shortLength (byteAt f 2), s.setFlag .shortlen)) ∨
    (3 ≤ (byteAt f 2).toNat ∧ checksum (sliceBytes f 0 (f.length - 1)) = byteAt f (f.length - 1) ∧
      checkFrame f s = (.frame (byteAt f 3) (byteAt f 4) (sliceBytes f 5 (f.length - 1)), s)) ∨
    (3 ≤ (byteAt f 2).toNat ∧ checksum (sliceBytes f 0 (f.length - 1)) ≠ byteAt f (f.length - 1) ∧
      checkFrame f s =
        (.checksumError (checksum (sliceBytes f 0 (f.length - 1))) (byteAt f (f.length - 1)), s.setFlag .ckerr)) := by
  unfold checkFrame
  by_cases h : (byteAt f 2).toNat < 3
  · exact .inl ⟨h, by simp [Config.lenOverhead, h, raiseOutcome]⟩
  · by_cases hc : checksum (sliceBytes f 0 (f.length - 1)) = byteAt f (f.length - 1)
    · exact .inr (.inl ⟨by omega, hc, by simp [Config.lenOverhead, h, hc, raiseOutcome]⟩)
    · exact .inr (.inr ⟨by omega, hc, by simp [Config.lenOverhead, h, hc, raiseOutcome]⟩)

/-- The four ways a `PARSE` goes (R111, R181): too few bytes for a head, a wrong head, an incomplete frame, and a whole
declared frame `f` sliced off the front. -/
theorem parse_cases (s : State) :
    (s.rxbuf.length < 3 ∧ parse s = (.needMoreData false, s)) ∨
    (3 ≤ s.rxbuf.length ∧ (byteAt s.rxbuf 0 ≠ 0x6A ∨ byteAt s.rxbuf 1 ≠ 0xA6) ∧
      parse s = (.needMoreData true, s.setFlag .desync)) ∨
    (3 ≤ s.rxbuf.length ∧ byteAt s.rxbuf 0 = 0x6A ∧ byteAt s.rxbuf 1 = 0xA6 ∧
      s.rxbuf.length < (byteAt s.rxbuf 2).toNat + 3 ∧ parse s = (.needMoreData false, s)) ∨
    (byteAt s.rxbuf 0 = 0x6A ∧ byteAt s.rxbuf 1 = 0xA6 ∧ (byteAt s.rxbuf 2).toNat + 3 ≤ s.rxbuf.length ∧
      parse s = checkFrame (s.rxbuf.take ((byteAt s.rxbuf 2).toNat + 3))
        (s.rxConsume ((byteAt s.rxbuf 2).toNat + 3))) := by
  unfold parse
  by_cases h3 : s.rxbuf.length < 3
  · exact .inl ⟨h3, by simp [State.rxLen, Config.headerLen, h3, raiseOutcome]⟩
  · by_cases hh : byteAt s.rxbuf 0 ≠ 0x6A ∨ byteAt s.rxbuf 1 ≠ 0xA6
    · exact .inr (.inl ⟨by omega, hh, by
        simp only [State.rxLen, Config.headerLen, h3, Config.head0, Config.head1, hh, raiseOutcome, if_true, if_false]⟩)
    · have hh' := hh
      simp only [not_or, not_not] at hh'
      by_cases ht : s.rxbuf.length < (byteAt s.rxbuf 2).toNat + 3
      · exact .inr (.inr (.inl ⟨by omega, hh'.1, hh'.2, ht, by
          simp only [State.rxLen, Config.headerLen, Config.frameOverhead, h3, Config.head0, Config.head1, hh, ht,
            raiseOutcome, if_true, if_false]⟩))
      · exact .inr (.inr (.inr ⟨hh'.1, hh'.2, by omega, by
          simp only [State.rxLen, Config.headerLen, Config.frameOverhead, h3, Config.head0, Config.head1, hh, ht,
            if_false, State.rxPeek, sliceBytes, Nat.zero_add, List.drop_zero]⟩))

/-- The result is one that ends the decode loop. -/
def ParseResult.isNeedMore : ParseResult → Bool
  | .needMoreData _ => true
  | .frame _ _ _ => false
  | .checksumError _ _ => false
  | .shortLength _ => false

/-- Any other result has consumed at least 3 bytes (R112, termination); `NeedMoreData` has consumed none (R113). -/
theorem parse_consumes (s : State) :
    ((parse s).1.isNeedMore = true ∧ (parse s).2.rxbuf = s.rxbuf) ∨
    ((parse s).1.isNeedMore = false ∧ (parse s).2.rxbuf.length + 3 ≤ s.rxbuf.length) := by
  obtain ⟨-, h⟩ | ⟨-, -, h⟩ | ⟨-, -, -, -, h⟩ | ⟨-, -, hl, h⟩ := parse_cases s
  · exact .inl (by simp [h, ParseResult.isNeedMore])
  · exact .inl (by simp [h, ParseResult.isNeedMore])
  · exact .inl (by simp [h, ParseResult.isNeedMore])
  · refine .inr ?_
    obtain ⟨-, hc⟩ | ⟨-, -, hc⟩ | ⟨-, -, hc⟩ := checkFrame_cases
      (s.rxbuf.take ((byteAt s.rxbuf 2).toNat + 3)) (s.rxConsume ((byteAt s.rxbuf 2).toNat + 3)) <;>
    · rw [h, hc]
      simp [ParseResult.isNeedMore]
      omega

/-- What no `PARSE` touches, and what it does to the buffer: a prefix at most is removed. -/
theorem parse_frame (s : State) :
    (parse s).2.rxcap = s.rxcap ∧ (parse s).2.requests = s.requests ∧ (parse s).2.results = s.results ∧
    ∃ k, (parse s).2.rxbuf = s.rxbuf.drop k := by
  obtain ⟨-, h⟩ | ⟨-, -, h⟩ | ⟨-, -, -, -, h⟩ | ⟨-, -, -, h⟩ := parse_cases s
  · exact ⟨by simp [h], by simp [h], by simp [h], 0, by simp [h]⟩
  · exact ⟨by simp [h], by simp [h], by simp [h], 0, by simp [h]⟩
  · exact ⟨by simp [h], by simp [h], by simp [h], 0, by simp [h]⟩
  · obtain ⟨-, hc⟩ | ⟨-, -, hc⟩ | ⟨-, -, hc⟩ := checkFrame_cases
      (s.rxbuf.take ((byteAt s.rxbuf 2).toNat + 3)) (s.rxConsume ((byteAt s.rxbuf 2).toNat + 3)) <;>
    · rw [h, hc]
      exact ⟨by simp, by simp, by simp, _, by simp; rfl⟩

/-- Fuel beyond what the buffer needs changes nothing. -/
theorem drainLoop_fuel (m n : Nat) (s : State) (hm : s.rxbuf.length / 3 < m) (hn : s.rxbuf.length / 3 < n) :
    drainLoop m s = drainLoop n s := by
  induction m generalizing n s with
  | zero => omega
  | succ m ih =>
    obtain ⟨n, rfl⟩ : ∃ k, n = k + 1 := ⟨n - 1, by omega⟩
    unfold drainLoop
    have hc := parse_consumes s
    rcases hp : parse s with ⟨r, s'⟩
    rw [hp] at hc
    cases r with
    | needMoreData d => rfl
    | frame t c p =>
      have := ih n s' (by simp [ParseResult.isNeedMore] at hc; omega) (by simp [ParseResult.isNeedMore] at hc; omega)
      simp [this]
    | checksumError x y =>
      have := ih n s' (by simp [ParseResult.isNeedMore] at hc; omega) (by simp [ParseResult.isNeedMore] at hc; omega)
      simp [this]
    | shortLength l =>
      have := ih n s' (by simp [ParseResult.isNeedMore] at hc; omega) (by simp [ParseResult.isNeedMore] at hc; omega)
      simp [this]

/-- The event that a result of `PARSE` becomes in `DRAIN` (R112). -/
def eventOf : ParseResult → Event
  | .frame t c p => .frameEvt t c p (pdec c p)
  | .checksumError x y => .ckErrEvt x y
  | .shortLength l => .shortLenEvt l
  | .needMoreData d => .needMoreEvt d

/-- `DRAIN` where `PARSE` answers `NeedMoreData`: one event (R112). -/
theorem drain_stop {s : State} (h : (parse s).1.isNeedMore = true) : drain s = ([eventOf (parse s).1], (parse s).2) := by
  unfold drain drainLoop
  rcases hp : parse s with ⟨r, s'⟩
  rw [hp] at h
  cases r <;> simp_all [ParseResult.isNeedMore, eventOf]

/-- `DRAIN` where `PARSE` answers anything else: its event, then `DRAIN` of what is left (R112). -/
theorem drain_more {s : State} (h : (parse s).1.isNeedMore = false) :
    drain s = (eventOf (parse s).1 :: (drain (parse s).2).1, (drain (parse s).2).2) := by
  have hc := parse_consumes s
  have hf : drainLoop (s.rxLen / 3) (parse s).2 = drain (parse s).2 := by
    apply drainLoop_fuel
    · simp only [State.rxLen]; simp [h] at hc; omega
    · simp [State.rxLen]
  unfold drain at hf ⊢
  rw [drainLoop]
  rcases hp : parse s with ⟨r, s'⟩
  rw [hp] at h hf
  cases r <;> simp_all [ParseResult.isNeedMore, eventOf]

/-- Induction along the decode loop: a fact of every state in which `PARSE` answers `NeedMoreData`, passed back over every
other `PARSE`, holds of every state. -/
theorem drain_induction {motive : State → Prop}
    (stop : ∀ s, (parse s).1.isNeedMore = true → motive s)
    (more : ∀ s, (parse s).1.isNeedMore = false → motive (parse s).2 → motive s) (s : State) : motive s := by
  induction hn : s.rxbuf.length using Nat.strong_induction_on generalizing s with
  | _ n ih =>
    obtain ⟨h, -⟩ | ⟨h, hl⟩ := parse_consumes s
    · exact stop s h
    · exact more s h (ih _ (by omega) _ rfl)

/-- What no `DRAIN` touches, and what it does to the buffer. -/
theorem drain_frame (s : State) :
    (drain s).2.rxcap = s.rxcap ∧ (drain s).2.requests = s.requests ∧ (drain s).2.results = s.results ∧
    ∃ k, (drain s).2.rxbuf = s.rxbuf.drop k := by
  induction s using drain_induction with
  | stop s h => rw [drain_stop h]; exact parse_frame s
  | more s h ih =>
    rw [drain_more h]
    obtain ⟨h1, h2, h3, k, h4⟩ := parse_frame s
    obtain ⟨i1, i2, i3, j, i4⟩ := ih
    exact ⟨i1.trans h1, i2.trans h2, i3.trans h3, k + j, by rw [i4, h4, List.drop_drop]⟩

theorem wf_parse {s : State} (h : Memory.wf s) : Memory.wf (parse s).2 := by
  obtain ⟨hc, -, -, k, hb⟩ := parse_frame s
  unfold Memory.wf
  rw [hc, hb]
  exact wf_rxConsume k h

theorem wf_drain {s : State} (h : Memory.wf s) : Memory.wf (drain s).2 := by
  obtain ⟨hc, -, -, k, hb⟩ := drain_frame s
  unfold Memory.wf
  rw [hc, hb]
  exact wf_rxConsume k h

end Sys2Proof.Machine
end

