-- ==== Sys2Proof/Laws/Operands.lean ====
section
/-! SUPPORT. The small lemmas of the operand functions: command lookup and frame sizes. -/

namespace Sys2Proof

/-- The lookup finds every named command at its own byte (R55). -/
@[simp] theorem commandOfByte_byte (c : Command) : commandOfByte c.byte = some c := by
  cases c <;> decide

/-- Two named commands have two bytes (R55). -/
theorem byte_injective {c d : Command} (h : c.byte = d.byte) : c = d := by
  have := congrArg commandOfByte h
  simpa using this

/-- The lookup answers only a command that has this byte. -/
theorem byte_of_commandOfByte {b : Byte} {c : Command} (h : commandOfByte b = some c) : c.byte = b := by
  simpa using List.find?_some h

/-- A frame has 6 bytes around its payload (R52). -/
@[simp] theorem wireFrame_length (l t c : Byte) (p : List Byte) (k : Byte) : (wireFrame l t c p k).length = p.length + 6 := by
  simp [wireFrame, frameBody]

@[simp] theorem frameBytes_length (t c : Byte) (p : List Byte) : (frameBytes t c p).length = p.length + 6 :=
  wireFrame_length ..

/-- LENGTH of an encodable payload does not wrap (R51, R56). -/
theorem lengthByte_toNat {p : List Byte} (h : p.length ≤ 252) : (lengthByte p).toNat = p.length + 3 := by
  simp only [lengthByte, Config.lenOverhead, BitVec.toNat_ofNat]
  omega

end Sys2Proof
end

