-- ==== Sys2Proof/Laws/PerInstr.lean ====
section
/-! SUPPORT. The per-instruction family RowMatch: the words of every instruction match its own row of
spec/opcode_table.json, bit for bit under the row's mask (30_encoding.md rules R65 and R68). -/

namespace Sys2Proof.Laws.RowMatch

/-- The header of the instruction's words is one the instruction's row matches. -/
def Statement (i : Instr) : Prop := (tableRow i).matchesBytes (encode i).header = true

/-- An `RXFRAME` row matches every frame of its command. -/
theorem rxRow_matches (mnemonic : String) (c : Command) (l t : Byte) (p : List Byte) (k : Byte) :
    (rxRow mnemonic c).matchesBytes (Request.rx (wireFrame l t c.byte p k)).header = true := by
  simp [TableRow.matchesBytes, rxRow, frameRow, rowFixed, rowFree, Request.header, wireFrame, frameBody, Config.head0, Config.head1]
  cases c <;> decide

theorem csum (b : List Byte) : Statement (.csum b) := by
  simp [Statement, tableRow, encode, Request.header, opRow, TableRow.matchesBytes]

theorem encRead (c : Byte) (p : List Byte) : Statement (.encRead c p) := by
  simp [Statement, tableRow, encode, Request.header, opRow, TableRow.matchesBytes]

theorem encRelay (c : Byte) (sw : List Nat) (st : Bool) : Statement (.encRelay c sw st) := by
  simp [Statement, tableRow, encode, Request.header, opRow, TableRow.matchesBytes]

theorem rxPush (bs : List Byte) : Statement (.rxPush bs) := by
  simp [Statement, tableRow, encode, Request.header, opRow, TableRow.matchesBytes]

theorem parse : Statement (.parse) := by
  simp [Statement, tableRow, encode, Request.header, opRow, TableRow.matchesBytes]

theorem drain : Statement (.drain) := by
  simp [Statement, tableRow, encode, Request.header, opRow, TableRow.matchesBytes]

theorem pdec (c : Byte) (p : List Byte) : Statement (.pdec c p) := by
  simp [Statement, tableRow, encode, Request.header, opRow, TableRow.matchesBytes]

theorem reset : Statement (.reset) := by
  simp [Statement, tableRow, encode, Request.header, opRow, TableRow.matchesBytes]

theorem frameRead (c : Byte) (p : List Byte) : Statement (.frameRead c p) := by
  simp [Statement, tableRow, encode, Request.header, TableRow.matchesBytes, frameRow, rowFixed, rowFree, wireFrame,
    frameBody, Config.head0, Config.head1, readFrame, frameBytes, Config.typeRead, lengthByte, Config.lenOverhead]

theorem frameRelay (c : Byte) (st : Bool) (m0 m1 : Byte) : Statement (.frameRelay c st m0 m1) := by
  simp [Statement, tableRow, encode, Request.header, TableRow.matchesBytes, frameRow, rowFixed, rowFree, wireFrame,
    frameBody, Config.head0, Config.head1, frameBytes, Config.typeWrite, lengthByte, Config.lenOverhead]
  rfl

theorem rxOutputCtr (l t : Byte) (p : List Byte) (k : Byte) : Statement (.rxOutputCtr l t p k) :=
  rxRow_matches _ _ l t p k

theorem rxDeviceTime (l t : Byte) (p : List Byte) (k : Byte) : Statement (.rxDeviceTime l t p k) :=
  rxRow_matches _ _ l t p k

theorem rxTapTime (l t : Byte) (p : List Byte) (k : Byte) : Statement (.rxTapTime l t p k) :=
  rxRow_matches _ _ l t p k

theorem rxDelayTime (l t : Byte) (p : List Byte) (k : Byte) : Statement (.rxDelayTime l t p k) :=
  rxRow_matches _ _ l t p k

theorem rxModbusAddress (l t : Byte) (p : List Byte) (k : Byte) : Statement (.rxModbusAddress l t p k) :=
  rxRow_matches _ _ l t p k

theorem rxOutputState (l t : Byte) (p : List Byte) (k : Byte) : Statement (.rxOutputState l t p k) :=
  rxRow_matches _ _ l t p k

theorem rxInputState (l t : Byte) (p : List Byte) (k : Byte) : Statement (.rxInputState l t p k) :=
  rxRow_matches _ _ l t p k

theorem rxCycleTime (l t : Byte) (p : List Byte) (k : Byte) : Statement (.rxCycleTime l t p k) :=
  rxRow_matches _ _ l t p k

theorem rxAutoEnable (l t : Byte) (p : List Byte) (k : Byte) : Statement (.rxAutoEnable l t p k) :=
  rxRow_matches _ _ l t p k

theorem rxAuto1 (l t : Byte) (p : List Byte) (k : Byte) : Statement (.rxAuto1 l t p k) :=
  rxRow_matches _ _ l t p k

theorem rxAuto2 (l t : Byte) (p : List Byte) (k : Byte) : Statement (.rxAuto2 l t p k) :=
  rxRow_matches _ _ l t p k

theorem rxAuto3 (l t : Byte) (p : List Byte) (k : Byte) : Statement (.rxAuto3 l t p k) :=
  rxRow_matches _ _ l t p k

theorem rxAuto4 (l t : Byte) (p : List Byte) (k : Byte) : Statement (.rxAuto4 l t p k) :=
  rxRow_matches _ _ l t p k

theorem rxAuto5 (l t : Byte) (p : List Byte) (k : Byte) : Statement (.rxAuto5 l t p k) :=
  rxRow_matches _ _ l t p k

theorem rxAuto6 (l t : Byte) (p : List Byte) (k : Byte) : Statement (.rxAuto6 l t p k) :=
  rxRow_matches _ _ l t p k

theorem rxAuto7 (l t : Byte) (p : List Byte) (k : Byte) : Statement (.rxAuto7 l t p k) :=
  rxRow_matches _ _ l t p k

theorem rxAuto8 (l t : Byte) (p : List Byte) (k : Byte) : Statement (.rxAuto8 l t p k) :=
  rxRow_matches _ _ l t p k

theorem rxAuto9 (l t : Byte) (p : List Byte) (k : Byte) : Statement (.rxAuto9 l t p k) :=
  rxRow_matches _ _ l t p k

theorem rxAuto10 (l t : Byte) (p : List Byte) (k : Byte) : Statement (.rxAuto10 l t p k) :=
  rxRow_matches _ _ l t p k

theorem rxAuto11 (l t : Byte) (p : List Byte) (k : Byte) : Statement (.rxAuto11 l t p k) :=
  rxRow_matches _ _ l t p k

theorem rxAuto12 (l t : Byte) (p : List Byte) (k : Byte) : Statement (.rxAuto12 l t p k) :=
  rxRow_matches _ _ l t p k

theorem rxAuto13 (l t : Byte) (p : List Byte) (k : Byte) : Statement (.rxAuto13 l t p k) :=
  rxRow_matches _ _ l t p k

theorem rxAuto14 (l t : Byte) (p : List Byte) (k : Byte) : Statement (.rxAuto14 l t p k) :=
  rxRow_matches _ _ l t p k

theorem rxAuto15 (l t : Byte) (p : List Byte) (k : Byte) : Statement (.rxAuto15 l t p k) :=
  rxRow_matches _ _ l t p k

theorem rxAuto16 (l t : Byte) (p : List Byte) (k : Byte) : Statement (.rxAuto16 l t p k) :=
  rxRow_matches _ _ l t p k

theorem rxTypeResponse (l t : Byte) (p : List Byte) (k : Byte) : Statement (.rxTypeResponse l t p k) :=
  rxRow_matches _ _ l t p k

theorem rxUnnamed (l t c : Byte) (p : List Byte) (k : Byte) : Statement (.rxUnnamed l t c p k) := by
  simp [Statement, tableRow, encode, Request.header, TableRow.matchesBytes, frameRow, rowFixed, rowFree, wireFrame,
    frameBody, Config.head0, Config.head1]

end Sys2Proof.Laws.RowMatch
end

