-- ==== Sys2Proof/Tests/Slice0.lean ====
section
/-! SUPPORT. The model's own tests: every constructor's decoding on a word written out from the spec, the vectors of
95_test_vectors.md (named in each comment), an ill-formed term for each check of WellFormed, and a state and operands that
meet the hypotheses of each statement. -/

namespace Sys2Proof.Tests

open Sys2Proof.Machine

/-- A state with these buffered bytes and flags, an unbounded buffer and nothing on the host's side. -/
def st (rx : List Byte) (status : BitVec 8) : State := ⟨rx, status, .infinite, [], []⟩

/-- What the codec has answered after a step, nothing where it stopped. -/
def answers (o : Host.Outcome State Fault Refusal) : List Completion :=
  match o with
  | .next s => s.results
  | .fault _ => []
  | .refused _ => []

/-- The buffer after a step, and the flags. -/
def left (o : Host.Outcome State Fault Refusal) : Option (List Byte × BitVec 8) :=
  match o with
  | .next s => some (s.rxbuf, s.status)
  | .fault _ => none
  | .refused _ => none

/-! ### Decoding -/

-- The select table of rule R65.
theorem test_decode_csum : decode (.op { op := 0b000, bytes := [0x10] }) = .ok (.csum [0x10]) := by decide
theorem test_decode_encRead :
    decode (.op { op := 0b001, command := 0x06, bytes := [0xFF] }) = .ok (.encRead 0x06 [0xFF]) := by decide
theorem test_decode_encRelay :
    decode (.op { op := 0b010, command := 0x01, switchSet := [1, 9], state := true }) = .ok (.encRelay 0x01 [1, 9] true) := by
  decide
theorem test_decode_rxPush : decode (.op { op := 0b011, bytes := [0x03, 0xFE] }) = .ok (.rxPush [0x03, 0xFE]) := by decide
theorem test_decode_parse : decode (.op { op := 0b100 }) = .ok .parse := by decide
theorem test_decode_drain : decode (.op { op := 0b101 }) = .ok .drain := by decide
theorem test_decode_pdec :
    decode (.op { op := 0b110, command := 0x02, bytes := [0x05] }) = .ok (.pdec 0x02 [0x05]) := by decide
theorem test_decode_reset : decode (.op { op := 0b111 }) = .ok .reset := by decide

-- V31 (LENGTH 4, one payload byte) and V45 (switch 8 on) of 95_test_vectors.md.
theorem test_decode_frameRead :
    decode (.tx [0x6A, 0xA6, 0x04, 0xFE, 0x06, 0xFF, 0x07]) = .ok (.frameRead 0x06 [0xFF]) := by decide
theorem test_decode_frameRelay :
    decode (.tx [0x6A, 0xA6, 0x06, 0x01, 0x01, 0x01, 0x80, 0x00, 0x89]) = .ok (.frameRelay 0x01 true 0x80 0x00) := by decide

-- The frames of rule R50 with TYPE FF, one payload byte 20 and the checksum 04 + FF + command + 20 modulo 256 (R83).
theorem test_decode_rxOutputCtr :
    decode (.rx [0x6A, 0xA6, 0x04, 0xFF, 0x01, 0x20, 0x24]) = .ok (.rxOutputCtr 0x04 0xFF [0x20] 0x24) := by decide
theorem test_decode_rxDeviceTime :
    decode (.rx [0x6A, 0xA6, 0x04, 0xFF, 0x02, 0x20, 0x25]) = .ok (.rxDeviceTime 0x04 0xFF [0x20] 0x25) := by decide
theorem test_decode_rxTapTime :
    decode (.rx [0x6A, 0xA6, 0x04, 0xFF, 0x03, 0x20, 0x26]) = .ok (.rxTapTime 0x04 0xFF [0x20] 0x26) := by decide
theorem test_decode_rxDelayTime :
    decode (.rx [0x6A, 0xA6, 0x04, 0xFF, 0x04, 0x20, 0x27]) = .ok (.rxDelayTime 0x04 0xFF [0x20] 0x27) := by decide
theorem test_decode_rxModbusAddress :
    decode (.rx [0x6A, 0xA6, 0x04, 0xFF, 0x05, 0x20, 0x28]) = .ok (.rxModbusAddress 0x04 0xFF [0x20] 0x28) := by decide
theorem test_decode_rxOutputState :
    decode (.rx [0x6A, 0xA6, 0x04, 0xFF, 0x06, 0x20, 0x29]) = .ok (.rxOutputState 0x04 0xFF [0x20] 0x29) := by decide
theorem test_decode_rxInputState :
    decode (.rx [0x6A, 0xA6, 0x04, 0xFF, 0x07, 0x20, 0x2A]) = .ok (.rxInputState 0x04 0xFF [0x20] 0x2A) := by decide
theorem test_decode_rxCycleTime :
    decode (.rx [0x6A, 0xA6, 0x04, 0xFF, 0x08, 0x20, 0x2B]) = .ok (.rxCycleTime 0x04 0xFF [0x20] 0x2B) := by decide
theorem test_decode_rxAutoEnable :
    decode (.rx [0x6A, 0xA6, 0x04, 0xFF, 0x0F, 0x20, 0x32]) = .ok (.rxAutoEnable 0x04 0xFF [0x20] 0x32) := by decide
theorem test_decode_rxAuto1 :
    decode (.rx [0x6A, 0xA6, 0x04, 0xFF, 0x10, 0x20, 0x33]) = .ok (.rxAuto1 0x04 0xFF [0x20] 0x33) := by decide
theorem test_decode_rxAuto2 :
    decode (.rx [0x6A, 0xA6, 0x04, 0xFF, 0x11, 0x20, 0x34]) = .ok (.rxAuto2 0x04 0xFF [0x20] 0x34) := by decide
theorem test_decode_rxAuto3 :
    decode (.rx [0x6A, 0xA6, 0x04, 0xFF, 0x12, 0x20, 0x35]) = .ok (.rxAuto3 0x04 0xFF [0x20] 0x35) := by decide
theorem test_decode_rxAuto4 :
    decode (.rx [0x6A, 0xA6, 0x04, 0xFF, 0x13, 0x20, 0x36]) = .ok (.rxAuto4 0x04 0xFF [0x20] 0x36) := by decide
theorem test_decode_rxAuto5 :
    decode (.rx [0x6A, 0xA6, 0x04, 0xFF, 0x14, 0x20, 0x37]) = .ok (.rxAuto5 0x04 0xFF [0x20] 0x37) := by decide
theorem test_decode_rxAuto6 :
    decode (.rx [0x6A, 0xA6, 0x04, 0xFF, 0x15, 0x20, 0x38]) = .ok (.rxAuto6 0x04 0xFF [0x20] 0x38) := by decide
theorem test_decode_rxAuto7 :
    decode (.rx [0x6A, 0xA6, 0x04, 0xFF, 0x16, 0x20, 0x39]) = .ok (.rxAuto7 0x04 0xFF [0x20] 0x39) := by decide
theorem test_decode_rxAuto8 :
    decode (.rx [0x6A, 0xA6, 0x04, 0xFF, 0x17, 0x20, 0x3A]) = .ok (.rxAuto8 0x04 0xFF [0x20] 0x3A) := by decide
theorem test_decode_rxAuto9 :
    decode (.rx [0x6A, 0xA6, 0x04, 0xFF, 0x18, 0x20, 0x3B]) = .ok (.rxAuto9 0x04 0xFF [0x20] 0x3B) := by decide
theorem test_decode_rxAuto10 :
    decode (.rx [0x6A, 0xA6, 0x04, 0xFF, 0x19, 0x20, 0x3C]) = .ok (.rxAuto10 0x04 0xFF [0x20] 0x3C) := by decide
theorem test_decode_rxAuto11 :
    decode (.rx [0x6A, 0xA6, 0x04, 0xFF, 0x1A, 0x20, 0x3D]) = .ok (.rxAuto11 0x04 0xFF [0x20] 0x3D) := by decide
theorem test_decode_rxAuto12 :
    decode (.rx [0x6A, 0xA6, 0x04, 0xFF, 0x1B, 0x20, 0x3E]) = .ok (.rxAuto12 0x04 0xFF [0x20] 0x3E) := by decide
theorem test_decode_rxAuto13 :
    decode (.rx [0x6A, 0xA6, 0x04, 0xFF, 0x1C, 0x20, 0x3F]) = .ok (.rxAuto13 0x04 0xFF [0x20] 0x3F) := by decide
theorem test_decode_rxAuto14 :
    decode (.rx [0x6A, 0xA6, 0x04, 0xFF, 0x1D, 0x20, 0x40]) = .ok (.rxAuto14 0x04 0xFF [0x20] 0x40) := by decide
theorem test_decode_rxAuto15 :
    decode (.rx [0x6A, 0xA6, 0x04, 0xFF, 0x1E, 0x20, 0x41]) = .ok (.rxAuto15 0x04 0xFF [0x20] 0x41) := by decide
theorem test_decode_rxAuto16 :
    decode (.rx [0x6A, 0xA6, 0x04, 0xFF, 0x1F, 0x20, 0x42]) = .ok (.rxAuto16 0x04 0xFF [0x20] 0x42) := by decide
theorem test_decode_rxTypeResponse :
    decode (.rx [0x6A, 0xA6, 0x04, 0xFF, 0xFF, 0x20, 0x22]) = .ok (.rxTypeResponse 0x04 0xFF [0x20] 0x22) := by decide
-- V143: COMMAND 20 is unnamed.
theorem test_decode_rxUnnamed :
    decode (.rx [0x6A, 0xA6, 0x04, 0xFF, 0x20, 0xAA, 0xCD]) = .ok (.rxUnnamed 0x04 0xFF 0x20 [0xAA] 0xCD) := by decide

-- Words that are no instruction (R53, R54, R95).
theorem test_decode_badHead : decode (.rx [0xA6, 0x6A, 0x03, 0xFE, 0x06, 0x07]) = .error .badHead := by decide
theorem test_decode_truncated : decode (.rx [0x6A, 0xA6, 0x03, 0xFE, 0x06]) = .error .frameTruncated := by decide
theorem test_decode_txType : decode (.tx [0x6A, 0xA6, 0x03, 0xFF, 0x06, 0x08]) = .error (.typeNotWritten 0xFF) := by decide
theorem test_decode_txWrongChecksum : decode (.tx [0x6A, 0xA6, 0x03, 0xFE, 0x06, 0x08]) = .error .notEmitted := by decide
theorem test_decode_txWrongFlag :
    decode (.tx [0x6A, 0xA6, 0x06, 0x01, 0x01, 0x02, 0x01, 0x01, 0x0C]) = .error .notEmitted := by decide

-- The bits of a row as the table numbers them: the select in the low bits, offset 0 of a frame most significant (R68).
theorem test_tableWord_select : decodeTableWord 8 5 = some .drain := by decide
theorem test_tableWord_frame : decodeTableWord 40 0x6AA6000007 = some (.rxInputState 0 0 [] 0) := by decide

/-! ### Well-formedness: an ill-formed term for each check -/

theorem test_wf_frameRead_tooLong : (Instr.frameRead 0x06 (List.replicate 253 0)).wf = false := by decide +kernel
theorem test_wf_rx_wrongLength : (Instr.rxOutputState 0x04 0xFF [0xFF, 0x00] 0x08).wf = false := by decide
theorem test_wf_rx_wrongChecksum : (Instr.rxOutputState 0x05 0xFF [0xFF, 0x00] 0x0A).wf = false := by decide
theorem test_wf_rx_tooLong :
    (Instr.rxTapTime 0x00 0x00 (List.replicate 253 0) 0x03).wf = false := by decide +kernel
theorem test_wf_rxUnnamed_named : (Instr.rxUnnamed 0x03 0xFF 0x06 [] 0x08).wf = false := by decide
theorem test_wf_good : (Instr.rxOutputState 0x05 0xFF [0xFF, 0x00] 0x09).wf = true := by decide

/-! ### Vectors -/

-- V1, V7 and V12.
theorem test_csum_empty : checksum [] = 0xF0 := by decide
theorem test_csum_vectors : checksum [0xFF, 0xFF] = 0xEE ∧ checksum [0x6A, 0xA6, 0x03, 0xFE, 0x06] = 0x07 := by decide
-- V30 and V33.
theorem test_encRead_wraps : readFrame 0xFF [] = [0x6A, 0xA6, 0x03, 0xFE, 0xFF, 0x00] := by decide
theorem test_encRead_payload :
    readFrame 0x03 [0x6A, 0xA6, 0x03] = [0x6A, 0xA6, 0x06, 0xFE, 0x03, 0x6A, 0xA6, 0x03, 0x1A] := by decide
-- V37.
theorem test_encRead_tooLong :
    answers (exec (.encRead 0x06 (List.replicate 253 0)) (st [] 0)) = [.payloadTooLong 253] := by decide +kernel
-- V48 and V47.
theorem test_encRelay_ignores :
    relayFrame 0x01 [3, 12, 17, 0] true = [0x6A, 0xA6, 0x06, 0x01, 0x01, 0x01, 0x04, 0x08, 0x15] := by decide
theorem test_encRelay_boundary :
    relayFrame 0x01 [8, 9] false = [0x6A, 0xA6, 0x06, 0x01, 0x01, 0x00, 0x80, 0x01, 0x89] := by decide
-- The frames V31 and V43 as rows.
theorem test_frameRead : answers (exec (.frameRead 0x06 [0xFF]) (st [] 0)) =
    [.bytes [0x6A, 0xA6, 0x04, 0xFE, 0x06, 0xFF, 0x07]] := by decide
theorem test_frameRelay : answers (exec (.frameRelay 0x01 false 0xFF 0xFF) (st [] 0)) =
    [.bytes [0x6A, 0xA6, 0x06, 0x01, 0x01, 0x00, 0xFF, 0xFF, 0x06]] := by decide
-- The example of R110, and step 2 of P6.
theorem test_rxPush : left (exec (.rxPush [0x03, 0xFE]) (st [0x6A, 0xA6] 0)) = some ([0x6A, 0xA6, 0x03, 0xFE], 0) := by decide
theorem test_rxPush_overflow :
    answers (exec (.rxPush (List.replicate 59 0)) ⟨List.replicate 200 0, 0, .bounded 0, [], []⟩) =
      [.rxOverflow 200 59] := by decide +kernel
-- V82 and V97.
theorem test_parse_frame :
    answers (exec .parse (st [0x6A, 0xA6, 0x05, 0xFF, 0x06, 0xFF, 0x00, 0x09, 0x6A] 0)) =
      [.parse (.frame 0xFF 0x06 [0xFF, 0x00])] := by decide
theorem test_parse_short : left (exec .parse (st [0x6A, 0xA6, 0x02, 0xFE, 0x00] 0)) = some ([], 0x04) := by decide
-- V108 and step 6 of P2.
theorem test_drain_short_then_desync :
    left (exec .drain (st [0x6A, 0xA6, 0x02, 0xFF, 0x06, 0xFF, 0x00, 0x09] 0)) = some ([0xFF, 0x00, 0x09], 0x05) := by decide
theorem test_drain_corrupted_middle :
    answers (exec .drain (st [0x6A, 0xA6, 0x09, 0xFF, 0x02, 0x05, 0x06, 0x0E, 0x0C, 0x1E, 0x2D, 0x7B,
        0x6A, 0xA6, 0x05, 0xFF, 0x07, 0x01, 0x80, 0x8C] 0)) =
      [.drain [.ckErrEvt 0x7A 0x7B, .frameEvt 0xFF 0x07 [0x01, 0x80] (.switchMap 0x8001), .needMoreEvt false]] := by decide
-- V67 and V124.
theorem test_pdec_switches : pdec 0x06 [0x55, 0xAA] = .switchMap 0xAA55 := by decide
theorem test_pdec_clock :
    pdec 0x02 [0x05, 0x06, 0x0F, 0x0C, 0x1E, 0x2D] = .deviceClock ⟨2023, 6, 15, 12, 30, 45⟩ := by decide
-- V153.
theorem test_reset : left (exec .reset (st [0x00, 0x6A, 0xA6] 0x0F)) = some ([], 0x00) := by decide
-- V146, V140 and V142 as rows received.
theorem test_rxInputState : answers (exec (.rxInputState 0x05 0xFF [0x01, 0x80] 0x8C) (st [] 0)) =
    [.ok, .drain [.frameEvt 0xFF 0x07 [0x01, 0x80] (.switchMap 0x8001), .needMoreEvt false]] := by decide
theorem test_rxOutputState_length : answers (exec (.rxOutputState 0x04 0xFF [0xFF] 0x08) (st [] 0)) =
    [.ok, .drain [.frameEvt 0xFF 0x06 [0xFF] (.decodeError 0x06 2 1), .needMoreEvt false]] := by decide
theorem test_rxUnnamed : answers (exec (.rxUnnamed 0x03 0xFF 0x09 [] 0x0B) (st [] 0)) =
    [.ok, .drain [.frameEvt 0xFF 0x09 [] (.unknownCommand 0x09), .needMoreEvt false]] := by decide
-- The relay frame of P3 looped back: no decoder for OUTPUT_CTR.
theorem test_rxOutputCtr : answers (exec (.rxOutputCtr 0x06 0x01 [0x01, 0x01, 0x01] 0x0B) (st [] 0)) =
    [.ok, .drain [.frameEvt 0x01 0x01 [0x01, 0x01, 0x01] (.noDecoder 0x01), .needMoreEvt false]] := by decide
-- A step from the reset state runs the placed instruction, whatever RXCAP is.
theorem test_step_runs_placed :
    answers (step (State.reset.withFetchWord 8 5)) = [.drain [.needMoreEvt false]] := by decide

/-! ### The hypotheses of the statements are met -/

theorem test_witness_DecodeEncodeWellFormed : (Instr.rxUnnamed 0x03 0xFF 0x09 [] 0x0B).wf = true := by decide
theorem test_witness_EncodeDecodeFrames :
    decode (.rx [0x6A, 0xA6, 0x00, 0x00, 0x06, 0x00]) = .ok (.rxOutputState 0 0 [] 0) ∧
    decode (.tx [0x6A, 0xA6, 0x03, 0xFE, 0x06, 0x07]) = .ok (.frameRead 0x06 []) := by decide
theorem test_witness_NamedRowsExclusive :
    (rxRow "RX_AUTO_1" .auto1).matchesBytes [0x6A, 0xA6, 0x03, 0x00, 0x10] = true := by decide
theorem test_witness_StepRunsDecodedInstruction :
    { st [] 0 with requests := [.request (.op { op := 0b100 })] }.requests =
      Turn.request (.op { op := 0b100 }) :: [] ∧ decode (.op { op := 0b100 }) = .ok .parse := by decide
theorem test_witness_FetchedTableWordRuns : decodeTableWord 8 7 = some .reset := by decide
theorem test_witness_IdleStepChangesNothing :
    (st [] 0).requests = [] ∧ { st [] 0 with requests := [.idle] }.requests = Turn.idle :: [] := by decide
theorem test_witness_SimultaneousRequestsStop :
    { st [] 0 with requests := [.simultaneous (.rx []) (.rx [])] }.requests =
      Turn.simultaneous (.rx []) (.rx []) :: [] := by decide
theorem test_witness_UndecodableWords :
    { st [] 0 with requests := [.request (.rx [])] }.requests = Turn.request (.rx []) :: [] ∧
    decode (.rx []) = .error .frameTruncated ∧
    { st [] 0 with requests := [.request (.tx [])] }.requests = Turn.request (.tx []) :: [] ∧
    decode (.tx []) = .error .frameTruncated := by decide
theorem test_witness_SingleByteChangesChecksum : (0x00 : Byte) ≠ 0xFF := by decide
theorem test_witness_EncReadFrame :
    (List.replicate 252 (0 : Byte)).length ≤ 252 ∧ 252 < (List.replicate 253 (0 : Byte)).length := by decide +kernel
theorem test_witness_PureOperationsReadNoState :
    (∃ b, Instr.csum [] = .csum b) ∧ (∃ c p, Instr.encRead 0 [] = .encRead c p) ∧
    (∃ c sw s, Instr.encRelay 0 [] true = .encRelay c sw s) ∧ (∃ c p, Instr.pdec 0 [] = .pdec c p) :=
  ⟨⟨_, rfl⟩, ⟨_, _, rfl⟩, ⟨_, _, _, rfl⟩, ⟨_, _, rfl⟩⟩
theorem test_witness_RxPushAppends :
    (st [] 0).rxcap = .infinite ∧
    (∃ e, (⟨List.replicate 200 0, 0, .bounded 0, [], []⟩ : State).rxcap = .bounded e ∧
      (List.replicate 200 (0 : Byte)).length + (List.replicate 58 (0 : Byte)).length ≤ 258 + e) :=
  ⟨rfl, 0, rfl, by decide +kernel⟩
theorem test_witness_RxPushOverflow :
    (⟨List.replicate 200 0, 0, .bounded 0, [], []⟩ : State).rxcap = .bounded 0 ∧
    258 + 0 < (List.replicate 200 (0 : Byte)).length + (List.replicate 59 (0 : Byte)).length := by decide +kernel
theorem test_witness_ParseNeedMoreData :
    (st [0x6A, 0xA6] 0).rxbuf.length < 3 ∧
    (st [0xA6, 0x6A, 0x03] 0).rxbuf = 0xA6 :: 0x6A :: 0x03 :: [] ∧ (0xA6 : Byte) ≠ 0x6A ∧
    (st [0x6A, 0xA6, 0x01] 0).rxbuf = 0x6A :: 0xA6 :: 0x01 :: [] ∧ ([] : List Byte).length < (0x01 : Byte).toNat := by decide
theorem test_witness_ParseChecksumError :
    (st [0x6A, 0xA6, 0x03, 0xFE, 0x06, 0x08] 0).rxbuf =
      [0x6A, 0xA6, 0x03] ++ [0xFE, 0x06] ++ [0x08] ++ [] ∧ 3 ≤ (0x03 : Byte).toNat ∧
    ([0xFE, 0x06] : List Byte).length + 1 = (0x03 : Byte).toNat ∧
    checksum ([0x6A, 0xA6, 0x03] ++ [0xFE, 0x06]) ≠ 0x08 := by decide
theorem test_witness_ParseDeliversFrame :
    ([] : List Byte).length + 3 = (0x03 : Byte).toNat ∧
    (st [0x6A, 0xA6, 0x03, 0xFE, 0x06, 0x07, 0x07] 0).rxbuf =
      [0x6A, 0xA6, 0x03, 0xFE, 0x06] ++ [] ++ [checksum ([0x6A, 0xA6, 0x03, 0xFE, 0x06] ++ [])] ++ [0x07] := by decide
theorem test_witness_ParseShortLength :
    (st [0x6A, 0xA6, 0x02, 0xFE, 0x06] 0).rxbuf = [0x6A, 0xA6, 0x02] ++ [0xFE, 0x06] ++ [] ∧ (0x02 : Byte).toNat < 3 ∧
    ([0xFE, 0x06] : List Byte).length = (0x02 : Byte).toNat := by decide
theorem test_witness_CorruptedByteDropped :
    WellFormedFrame ([0x6A, 0xA6, 0x05] ++ [0xFF, 0x06] ++ [0xFF] ++ [0x00] ++ [0x09]) ∧ (0xFF : Byte) ≠ 0x7F ∧
    (st [0x6A, 0xA6, 0x05, 0xFF, 0x06, 0x7F, 0x00, 0x09] 0).rxbuf =
      [0x6A, 0xA6, 0x05] ++ [0xFF, 0x06] ++ [0x7F] ++ [0x00] ++ [0x09] ++ [] := by decide
theorem test_witness_DrainIsParseLoop_needMore :
    ∃ t, exec .parse (st [] 0) = .next t ∧ t.results = (st [] 0).results ++ [.parse (.needMoreData false)] :=
  ⟨_, rfl, by decide⟩
theorem test_witness_DrainIsParseLoop_frame :
    ∃ t, exec .parse (st [0x6A, 0xA6, 0x03, 0xFE, 0x06, 0x07] 0) = .next t ∧
      t.results = ([] : List Completion) ++ [.parse (.frame 0xFE 0x06 [])] := ⟨_, rfl, by decide⟩
theorem test_witness_DrainIsParseLoop_checksum :
    ∃ t, exec .parse (st [0x6A, 0xA6, 0x03, 0xFE, 0x06, 0x08] 0) = .next t ∧
      t.results = ([] : List Completion) ++ [.parse (.checksumError 0x07 0x08)] := ⟨_, rfl, by decide⟩
theorem test_witness_DrainIsParseLoop_short :
    ∃ t, exec .parse (st [0x6A, 0xA6, 0x00] 0) = .next t ∧
      t.results = ([] : List Completion) ++ [.parse (.shortLength 0x00)] := ⟨_, rfl, by decide⟩
theorem test_witness_DrainDeliversWholeFrames :
    (∀ f ∈ [((0xFF : Byte), (0x06 : Byte), [(0xFF : Byte), 0x00])], f.2.2.length ≤ 252) ∧
    [0x6A, 0xA6, 0x05, 0xFF, 0x06, 0xFF, 0x00, 0x09] =
      [((0xFF : Byte), (0x06 : Byte), [(0xFF : Byte), 0x00])].flatMap (fun f => frameBytes f.1 f.2.1 f.2.2) ∧
    (st [] 0).rxbuf = [] ∧ (st [] 0).rxcap.admits 8 = true := by decide
theorem test_witness_EncodeParseRoundTrip :
    State.reset.rxbuf = [] ∧ (List.replicate 252 (0 : Byte)).length ≤ 252 := by decide +kernel
theorem test_witness_FragmentationInvariance :
    (RxCap.bounded 0).admits (([] : List Byte).length + (List.replicate 100 (0 : Byte) ++ List.replicate 158 0).length) = true := by
  decide +kernel
theorem test_witness_DesyncIsPermanent :
    Desynced (st [0x00, 0x6A, 0xA6] 0) ∧ ∀ i ∈ [Instr.rxPush [0x00], .parse, .drain], i.isBufferOp = true := by decide
theorem test_witness_Pdec :
    ([0xFF] : List Byte).length ≠ 2 ∧ ([0x01, 0x02, 0x03] : List Byte).length ≠ 2 ∧ ([] : List Byte).length ≠ 6 := by decide
theorem test_witness_PdecNoDecoder :
    (0xFF : Byte) ∈ ([0x01, 0x03, 0x04, 0x05, 0x08, 0x0F, 0x10, 0x11, 0x12, 0x13, 0x14, 0x15, 0x16, 0x17, 0x18, 0x19, 0x1A,
      0x1B, 0x1C, 0x1D, 0x1E, 0x1F, 0xFF] : List Byte) := by decide
theorem test_witness_PdecUnknownCommand :
    (0x00 : Byte).toNat = 0 ∧ (9 ≤ (0x0E : Byte).toNat ∧ (0x0E : Byte).toNat ≤ 14) ∧
    (32 ≤ (0x20 : Byte).toNat ∧ (0x20 : Byte).toNat ≤ 254) ∧ (32 ≤ (0xFE : Byte).toNat ∧ (0xFE : Byte).toNat ≤ 254) := by
  decide
theorem test_witness_StepKeepsInvariant :
    StateInv (st [0x6A] 0x0F) ∧ step (st [0x6A] 0x0F) = .next (st [0x6A] 0x0F) := ⟨by decide, rfl⟩
theorem test_witness_FlagsAreSticky :
    Instr.parse ≠ .reset ∧ (∃ t, exec .parse (st [] 0x0F) = .next t) ∧ (st [] 0x0F).status.getLsbD 3 = true :=
  ⟨by decide, ⟨_, rfl⟩, by decide⟩
theorem test_witness_OutcomeDependsOnBufferOnly :
    (st [0x6A] 0x00).rxbuf = (st [0x6A] 0x0F).rxbuf ∧ (st [0x6A] 0x00).rxcap = (st [0x6A] 0x0F).rxcap := by decide
theorem test_witness_StatusReadPort : StateInv (st [] 0x0F) ∧ 4 ≤ 7 := by decide
theorem test_witness_DecodedRowsDeliverResult :
    State.reset.rxbuf = [] ∧ (Instr.rxOutputState 0x05 0xFF [0xFF, 0x00] 0x09).wf = true ∧
    (Instr.rxInputState 0x05 0xFF [0x01, 0x80] 0x8C).wf = true ∧ (Instr.rxDeviceTime 0x03 0xFE [] 0x03).wf = true := by decide
theorem test_witness_UndecodedRowsDeliverNoDecoder :
    State.reset.rxbuf = [] ∧ (Instr.rxOutputCtr 0x03 0xFF [] 0x03).wf = true ∧
    (Instr.rxAuto16 0x03 0xFF [] 0x21).wf = true ∧ (Instr.rxTypeResponse 0x03 0xFF [] 0x01).wf = true := by decide
theorem test_witness_UnnamedRowDeliversUnknown :
    State.reset.rxbuf = [] ∧ (Instr.rxUnnamed 0x03 0xFF 0x09 [] 0x0B).wf = true := by decide
theorem test_witness_RowsWithWrongChecksumDropped :
    State.reset.rxbuf = [] ∧ ([] : List Byte).length + 3 = (0x03 : Byte).toNat ∧
    ((0xFF : Byte), Instr.rxTypeResponse 0x03 0xFE [] 0x01) ∈ namedRows 0x03 0xFE [] 0x01 ∧
    checksum ([0x6A, 0xA6, 0x03, 0xFE, 0xFF] ++ []) ≠ 0x01 := by decide

end Sys2Proof.Tests
end

section
/-! Proofs of the statements of 00_scope.md: what a step does with each kind of turn, and the reception of a frame as
`RX_PUSH` then `DRAIN`. -/

namespace Sys2Proof.Machine

/-! ### The step, one equation per kind of turn -/

section
variable {s : State} {rest : List Turn}

theorem step_of_no_turn (h : s.requests = []) : step s = .next s := by
  simp [step, h]

theorem step_of_idle (h : s.requests = .idle :: rest) : step s = .next (s.withRequests rest) := by
  simp [step, h]

theorem step_of_decoded {r : Request} {i : Instr} (h : s.requests = .request r :: rest) (hd : decode r = .ok i) :
    step s = exec i (s.withRequests rest) := by
  simp [step, h, hd]

end

/-! ### Programs -/

@[simp] theorem runInstrs_nil (s : State) : runInstrs [] s = .next s := rfl

/-- An instruction that completes hands its state to the rest of the program. -/
theorem runInstrs_cons_of_next {i : Instr} {s t : State} (is : List Instr) (h : exec i s = .next t) :
    runInstrs (i :: is) s = runInstrs is t := by
  simp [runInstrs, h]

@[simp] theorem exec_rxPush (bs : List Byte) (s : State) : exec (.rxPush bs) s = .next (pushStep bs s) := rfl

@[simp] theorem exec_drain (s : State) : exec .drain s = .next (drainStep s) := rfl

/-- Reception is the program `RX_PUSH`, `DRAIN` (R9, R204). -/
theorem runInstrs_rxPush_drain (bs : List Byte) (s : State) :
    runInstrs [.rxPush bs, .drain] s = .next (receive bs s) := by
  rw [runInstrs_cons_of_next _ (exec_rxPush bs s), runInstrs_cons_of_next _ (exec_drain _), runInstrs_nil, receive]

/-! ### The received rows -/

theorem wireFrame_eq (l t c : Byte) (p : List Byte) (k : Byte) :
    wireFrame l t c p k = [0x6A, 0xA6, l, t, c] ++ p ++ [k] := rfl

/-- Each of the 27 `RXFRAME` rows receives its frame, with the COMMAND byte it is listed under (R68, log 5). -/
theorem exec_rxFrameRow {l t c k : Byte} {p : List Byte} {row : Byte × Instr}
    (h : row ∈ (c, Instr.rxUnnamed l t c p k) :: namedRows l t p k) (s : State) :
    exec row.2 s = .next (receive (wireFrame l t row.1 p k) s) := by
  simp only [namedRows, decoderRows, noDecoderRows, List.cons_append, List.nil_append] at h
  fin_cases h <;> rfl

/-! ### The statements -/

/-- Settles O7, by the step's equation at a request that decodes. -/
theorem stepRunsDecodedInstruction : Obligations.StepRunsDecodedInstruction :=
  fun _ _ _ _ hturn hdecode => step_of_decoded hturn hdecode

/-- Settles O9, by the step's equations without a turn and at an idle turn. -/
theorem idleStepChangesNothing : Obligations.IdleStepChangesNothing :=
  fun _ _ => ⟨step_of_no_turn, step_of_idle⟩

/-- Settles O55: the row and the program both are the reception of the same bytes. -/
theorem rowsArePushThenDrain : Obligations.RowsArePushThenDrain := by
  intro l t c p k s row hrow
  rw [exec_rxFrameRow hrow, runInstrs_rxPush_drain, wireFrame_eq]

end Sys2Proof.Machine
end

section
/-! Proofs of the statements of 10_state.md: what an instruction and a step can do, said once; the sticky flags (R12) and the
buffer's capacity (R11) along every step. -/

namespace Sys2Proof.Machine

/-! ### What an instruction can do -/

@[simp] theorem exec_parse (s : State) : exec .parse s = .next ((parse s).2.deliver (.parse (parse s).1)) := rfl

@[simp] theorem exec_reset (s : State) :
    exec .reset s = .next (State.deliver .ok { s.rxClear with status := 0x00 }) := rfl

/-- The six kinds of instruction: an answer that is the same in every state, the four operations that act on the buffer or on
`STATUS`, and the reception of bytes (R38, R110 to R112, R160; log 5). -/
theorem exec_cases (i : Instr) :
    (∃ c, ∀ s, exec i s = .next (s.deliver c)) ∨ (∃ bs, i = .rxPush bs) ∨ i = .parse ∨ i = .drain ∨ i = .reset ∨
    (∃ bs, ∀ s, exec i s = .next (receive bs s)) := by
  cases i with
  | csum | encRead | encRelay | pdec | frameRead | frameRelay => exact .inl ⟨_, fun _ => rfl⟩
  | rxPush bs => exact .inr (.inl ⟨bs, rfl⟩)
  | parse => exact .inr (.inr (.inl rfl))
  | drain => exact .inr (.inr (.inr (.inl rfl)))
  | reset => exact .inr (.inr (.inr (.inr (.inl rfl))))
  | _ => exact .inr (.inr (.inr (.inr (.inr ⟨_, fun _ => rfl⟩))))

/-! ### What a step can do -/

theorem step_of_simultaneous {s : State} {r r' : Request} {rest : List Turn}
    (h : s.requests = .simultaneous r r' :: rest) : step s = .refused .simultaneousRequests := by
  simp [step, h]

theorem step_of_undecoded {s : State} {r : Request} {e : DecodeError} {rest : List Turn}
    (h : s.requests = .request r :: rest) (hd : decode r = .error e) :
    step s = undecoded r e (s.withRequests rest) := by
  simp [step, h, hd]

/-- Only received bytes that are no instruction get an answer (log 7). -/
theorem undecoded_next {r : Request} {e : DecodeError} {s t : State} (h : undecoded r e s = .next t) :
    ∃ bs, r = .rx bs ∧ t = receive bs s := by
  cases r with
  | rx bs => exact ⟨bs, rfl, (Host.Outcome.next.inj h).symm⟩
  | op r => cases h
  | tx frame => cases h

/-- The four ways a step answers a next state: no turn, an idle turn, an instruction, and received bytes that are no
instruction (R8, R9, R37; logs 2 and 7). -/
theorem step_cases {s t : State} (h : step s = .next t) :
    (s.requests = [] ∧ t = s) ∨
    (∃ rest, s.requests = .idle :: rest ∧ t = s.withRequests rest) ∨
    (∃ r rest i, s.requests = .request r :: rest ∧ decode r = .ok i ∧ exec i (s.withRequests rest) = .next t) ∨
    (∃ bs rest e, s.requests = .request (.rx bs) :: rest ∧ decode (.rx bs) = .error e ∧
      t = receive bs (s.withRequests rest)) := by
  rcases hq : s.requests with _ | ⟨_ | r | ⟨r, r'⟩, rest⟩
  · rw [step_of_no_turn hq] at h
    exact .inl ⟨rfl, (Host.Outcome.next.inj h).symm⟩
  · rw [step_of_idle hq] at h
    exact .inr (.inl ⟨rest, rfl, (Host.Outcome.next.inj h).symm⟩)
  · cases hd : decode r with
    | ok i => exact .inr (.inr (.inl ⟨r, rest, i, rfl, hd, step_of_decoded hq hd ▸ h⟩))
    | error e =>
      rw [step_of_undecoded hq hd] at h
      obtain ⟨bs, rfl, ht⟩ := undecoded_next h
      exact .inr (.inr (.inr ⟨bs, rest, e, rfl, hd, ht⟩))
  · rw [step_of_simultaneous hq] at h
    cases h

/-! ### The buffer stays within its capacity (R11) -/

theorem wf_pushStep (bs : List Byte) {s : State} (h : Memory.wf s) : Memory.wf (pushStep bs s) :=
  wf_deliver _ (wf_rxPush bs h)

theorem wf_drainStep {s : State} (h : Memory.wf s) : Memory.wf (drainStep s) :=
  wf_deliver _ (wf_drain h)

theorem wf_receive (bs : List Byte) {s : State} (h : Memory.wf s) : Memory.wf (receive bs s) :=
  wf_drainStep (wf_pushStep bs h)

theorem wf_exec {i : Instr} {s t : State} (h : Memory.wf s) (hx : exec i s = .next t) : Memory.wf t := by
  obtain ⟨c, hi⟩ | ⟨bs, rfl⟩ | rfl | rfl | rfl | ⟨bs, hi⟩ := exec_cases i
  · cases (hi s).symm.trans hx; exact wf_deliver c h
  · cases hx; exact wf_pushStep bs h
  · cases hx; exact wf_deliver _ (wf_parse h)
  · cases hx; exact wf_drainStep h
  · cases hx; exact wf_deliver _ (wf_rxClear s)
  · cases (hi s).symm.trans hx; exact wf_receive bs h

/-! ### The flags are sticky (R12) -/

/-- `STATUS` went from `a` to `b` with no bit cleared and no reserved bit changed (R12, R16). -/
structure StickyFrom (a b : BitVec 8) : Prop where
  keeps : ∀ k, a.getLsbD k = true → b.getLsbD k = true
  reserved : ∀ k, 4 ≤ k → b.getLsbD k = a.getLsbD k

theorem StickyFrom.refl (a : BitVec 8) : StickyFrom a a := ⟨fun _ => id, fun _ _ => rfl⟩

theorem StickyFrom.trans {a b c : BitVec 8} (h : StickyFrom a b) (h' : StickyFrom b c) : StickyFrom a c :=
  ⟨fun k hk => h'.keeps k (h.keeps k hk), fun k hk => (h'.reserved k hk).trans (h.reserved k hk)⟩

/-- The reserved bits as the invariant writes them. -/
theorem StickyFrom.reserved_mask {a b : BitVec 8} (h : StickyFrom a b) : b &&& 0xF0 = a &&& 0xF0 := by
  refine BitVec.eq_of_getLsbD_eq fun k hk => ?_
  rw [BitVec.getLsbD_and, BitVec.getLsbD_and]
  by_cases h4 : 4 ≤ k
  · rw [h.reserved k h4]
  · have hmask : (0xF0 : BitVec 8).getLsbD k = false := by interval_cases k <;> rfl
    rw [hmask, Bool.and_false, Bool.and_false]

/-- A flag's mask has no reserved bit. -/
theorem flagMask_getLsbD_reserved (f : StatusFlag) {k : Nat} (hk : 4 ≤ k) : (flagMask f).getLsbD k = false := by
  have hlt : (flagMask f).toNat < 2 ^ 4 := by cases f <;> decide
  exact Nat.testBit_lt_two_pow (hlt.trans_le (Nat.pow_le_pow_right (by decide) hk))

theorem sticky_setFlag (f : StatusFlag) (s : State) : StickyFrom s.status (s.setFlag f).status where
  keeps k hk := by simp [hk]
  reserved k hk := by simp [flagMask_getLsbD_reserved f hk]

theorem sticky_rxPush (bs : List Byte) (s : State) : StickyFrom s.status (rxPush bs s).2.status := by
  obtain ⟨-, h⟩ | ⟨-, h⟩ := rxPush_cases bs s
  · rw [h]; exact .refl _
  · rw [h]; exact sticky_setFlag _ s

theorem sticky_checkFrame (f : List Byte) (s : State) : StickyFrom s.status (checkFrame f s).2.status := by
  obtain ⟨-, h⟩ | ⟨-, -, h⟩ | ⟨-, -, h⟩ := checkFrame_cases f s
  · rw [h]; exact sticky_setFlag _ s
  · rw [h]; exact .refl _
  · rw [h]; exact sticky_setFlag _ s

theorem sticky_parse (s : State) : StickyFrom s.status (parse s).2.status := by
  obtain ⟨-, h⟩ | ⟨-, -, h⟩ | ⟨-, -, -, -, h⟩ | ⟨-, -, -, h⟩ := parse_cases s
  · rw [h]; exact .refl _
  · rw [h]; exact sticky_setFlag _ s
  · rw [h]; exact .refl _
  · rw [h]; exact sticky_checkFrame _ (s.rxConsume _)

theorem sticky_drain (s : State) : StickyFrom s.status (drain s).2.status := by
  induction s using drain_induction with
  | stop s h => rw [drain_stop h]; exact sticky_parse s
  | more s h ih => rw [drain_more h]; exact (sticky_parse s).trans ih

theorem sticky_receive (bs : List Byte) (s : State) : StickyFrom s.status (receive bs s).status :=
  (sticky_rxPush bs s).trans (sticky_drain (pushStep bs s))

theorem sticky_exec {i : Instr} {s t : State} (hr : i ≠ .reset) (hx : exec i s = .next t) :
    StickyFrom s.status t.status := by
  obtain ⟨c, hi⟩ | ⟨bs, rfl⟩ | rfl | rfl | rfl | ⟨bs, hi⟩ := exec_cases i
  · cases (hi s).symm.trans hx; exact .refl _
  · cases hx; exact sticky_rxPush bs s
  · cases hx; exact sticky_parse s
  · cases hx; exact sticky_drain s
  · exact absurd rfl hr
  · cases (hi s).symm.trans hx; exact sticky_receive bs s

/-! ### The invariant of every reachable state -/

theorem stateInv_of_sticky {s t : State} (h : StateInv s) (hwf : Memory.wf t) (hst : StickyFrom s.status t.status) :
    StateInv t :=
  ⟨hwf, hst.reserved_mask.trans h.2⟩

theorem stateInv_receive (bs : List Byte) {s : State} (h : StateInv s) : StateInv (receive bs s) :=
  stateInv_of_sticky h (wf_receive bs h.1) (sticky_receive bs s)

theorem stateInv_exec {i : Instr} {s t : State} (h : StateInv s) (hx : exec i s = .next t) : StateInv t := by
  have hwf : Memory.wf t := wf_exec h.1 hx
  by_cases hr : i = .reset
  · subst hr
    cases hx
    exact ⟨hwf, BitVec.zero_and⟩
  · exact stateInv_of_sticky h hwf (sticky_exec hr hx)

/-! ### The statements -/

/-- Settles O44, by the cases of a step: taking a turn leaves buffer and `STATUS` alone, and an instruction or a reception
keeps the invariant. -/
theorem stepKeepsInvariant : Obligations.StepKeepsInvariant := by
  intro s t hs hstep
  obtain ⟨-, rfl⟩ | ⟨rest, -, rfl⟩ | ⟨r, rest, i, -, -, hx⟩ | ⟨bs, rest, e, -, -, rfl⟩ := step_cases hstep
  · exact hs
  · exact hs
  · exact stateInv_exec (s := s.withRequests rest) hs hx
  · exact stateInv_receive bs (s := s.withRequests rest) hs

/-- Settles O47, by the cases of an instruction other than `RESET`. -/
theorem flagsAreSticky : Obligations.FlagsAreSticky := by
  intro i s t k hr hx
  have hst := sticky_exec hr hx
  exact ⟨hst.keeps k, hst.reserved k⟩

/-- Settles O22: each of the four meanings delivers an answer built from the operands alone. -/
theorem pureOperationsReadNoState : Obligations.PureOperationsReadNoState := by
  rintro i (⟨b, rfl⟩ | ⟨c, p, rfl⟩ | ⟨c, sw, st, rfl⟩ | ⟨c, p, rfl⟩)
  · exact ⟨.csum (checksum b), fun _ => rfl⟩
  · exact ⟨encReadResult c p, fun _ => rfl⟩
  · exact ⟨.bytes (relayFrame c sw st), fun _ => rfl⟩
  · exact ⟨.pdec (pdec c p), fun _ => rfl⟩

end Sys2Proof.Machine
end

section
/-! Proofs of the statements of 20_memory.md: what `PARSE` and `DRAIN` do with bytes appended behind the buffer, whole frames
delivered in order (R40), a delivery cut in two (R41) and two requests at once (R37). -/

namespace Sys2Proof

/-! ### The fields of a frame on the wire -/

section
variable (l t c : Byte) (p : List Byte) (k : Byte)

@[simp] theorem byteAt_wireFrame_head0 : byteAt (wireFrame l t c p k) 0 = 0x6A := rfl
@[simp] theorem byteAt_wireFrame_head1 : byteAt (wireFrame l t c p k) 1 = 0xA6 := rfl
@[simp] theorem byteAt_wireFrame_length : byteAt (wireFrame l t c p k) 2 = l := rfl
@[simp] theorem byteAt_wireFrame_type : byteAt (wireFrame l t c p k) 3 = t := rfl
@[simp] theorem byteAt_wireFrame_command : byteAt (wireFrame l t c p k) 4 = c := rfl

@[simp] theorem byteAt_wireFrame_checksum : byteAt (wireFrame l t c p k) (p.length + 5) = k := by
  simp [byteAt, wireFrame, frameBody]

@[simp] theorem sliceBytes_wireFrame_body : sliceBytes (wireFrame l t c p k) 0 (p.length + 5) = frameBody l t c p := by
  simp [sliceBytes, wireFrame, frameBody]

@[simp] theorem sliceBytes_wireFrame_payload : sliceBytes (wireFrame l t c p k) 5 (p.length + 5) = p := by
  simp [sliceBytes, wireFrame, frameBody]

end

/-- The frame of a payload of at most 252 bytes is well-formed (R51, R52, R57). -/
theorem wellFormedFrame_frameBytes (t c : Byte) {p : List Byte} (hp : p.length ≤ 252) :
    WellFormedFrame (frameBytes t c p) := by
  refine ⟨byteAt_wireFrame_head0 .., byteAt_wireFrame_head1 .., ?_, ?_, ?_⟩
  · simp [frameBytes, lengthByte_toNat hp, Config.lenOverhead]
  · simp [frameBytes, lengthByte_toNat hp, Config.frameOverhead]
  · simp [frameBytes]

/-- HEAD, a LENGTH and exactly the bytes it declares: what `PARSE` slices off, be its checksum good or not (R111). -/
structure DeclaredFrame (f : List Byte) : Prop where
  head0 : byteAt f 0 = 0x6A
  head1 : byteAt f 1 = 0xA6
  length_eq : f.length = (byteAt f 2).toNat + 3

theorem declaredFrame_of_wellFormed {f : List Byte} (h : WellFormedFrame f) : DeclaredFrame f := by
  obtain ⟨h0, h1, -, hlen, -⟩ := h
  exact ⟨h0, h1, hlen⟩

theorem byteAt_append_left {f : List Byte} (rest : List Byte) {i : Nat} (hi : i < f.length) :
    byteAt (f ++ rest) i = byteAt f i :=
  List.getD_append f rest 0 i hi

theorem byteAt_take (s : List Byte) {i n : Nat} (hi : i < n) : byteAt (s.take n) i = byteAt s i := by
  simp [byteAt, List.getD_eq_getElem?_getD, List.getElem?_take_of_lt hi]

end Sys2Proof

namespace Sys2Proof.Machine

/-! ### `PARSE` from the front of the buffer -/

/-- A well-formed frame passes the checks and changes no flag (R111 steps 5 to 7). -/
theorem checkFrame_of_wellFormed {f : List Byte} (h : WellFormedFrame f) (s : State) :
    checkFrame f s = (.frame (byteAt f 3) (byteAt f 4) (sliceBytes f 5 (f.length - 1)), s) := by
  obtain ⟨-, -, hlen, -, hck⟩ := h
  obtain ⟨hshort, -⟩ | ⟨-, -, heq⟩ | ⟨-, hbad, -⟩ := checkFrame_cases f s
  · exact absurd hlen (Nat.not_le_of_lt hshort)
  · exact heq
  · exact absurd hck.symm hbad

/-- A declared frame at the front of the buffer is sliced off whole, whatever follows it. -/
theorem parse_of_declared {s : State} {f rest : List Byte} (hf : DeclaredFrame f) (hs : s.rxbuf = f ++ rest) :
    parse s = checkFrame f (s.rxConsume f.length) := by
  obtain ⟨h0, h1, hlen⟩ := hf
  have hbytes : ∀ i < 3, byteAt s.rxbuf i = byteAt f i := fun i hi => hs ▸ byteAt_append_left rest (by omega)
  have htotal : f.length ≤ s.rxbuf.length := by simp [hs]
  obtain ⟨hlt, -⟩ | ⟨-, hbad, -⟩ | ⟨-, -, -, hlt, -⟩ | ⟨-, -, -, heq⟩ := parse_cases s
  · omega
  · simp [hbytes, h0, h1] at hbad
  · rw [hbytes 2 (by decide)] at hlt
    omega
  · rw [heq, hbytes 2 (by decide), ← hlen, hs, List.take_left]

/-- A result other than `NeedMoreData` comes from a declared frame at the front of the buffer. -/
theorem exists_declared_of_parse {s : State} (h : (parse s).1.isNeedMore = false) :
    ∃ f rest, DeclaredFrame f ∧ s.rxbuf = f ++ rest := by
  obtain ⟨-, heq⟩ | ⟨-, -, heq⟩ | ⟨-, -, -, -, heq⟩ | ⟨h0, h1, hle, -⟩ := parse_cases s
  · simp [heq, ParseResult.isNeedMore] at h
  · simp [heq, ParseResult.isNeedMore] at h
  · simp [heq, ParseResult.isNeedMore] at h
  · refine ⟨s.rxbuf.take ((byteAt s.rxbuf 2).toNat + 3), _, ⟨?_, ?_, ?_⟩, (List.take_append_drop _ _).symm⟩
    · rw [byteAt_take _ (by omega), h0]
    · rw [byteAt_take _ (by omega), h1]
    · rw [byteAt_take _ (by omega), List.length_take_of_le hle]

/-- A wrong head is noticed once 3 bytes are buffered, and nothing is consumed (R116). -/
theorem parse_of_desynced {s : State} (h : Desynced s) : parse s = (.needMoreData true, s.setFlag .desync) := by
  obtain ⟨h3, hhead⟩ := h
  obtain ⟨hlt, -⟩ | ⟨-, -, heq⟩ | ⟨-, h0, h1, -⟩ | ⟨h0, h1, -⟩ := parse_cases s
  · exact absurd h3 (Nat.not_le_of_lt hlt)
  · exact heq
  · exact (hhead.elim (· h0) (· h1)).elim
  · exact (hhead.elim (· h0) (· h1)).elim

/-- A sliced frame always consumes: its outcome is not `NeedMoreData` (R111). -/
theorem checkFrame_not_needMore (f : List Byte) (s : State) : (checkFrame f s).1.isNeedMore = false := by
  obtain ⟨-, h⟩ | ⟨-, -, h⟩ | ⟨-, -, h⟩ := checkFrame_cases f s
  · rw [h]; rfl
  · rw [h]; rfl
  · rw [h]; rfl

/-- `NeedMoreData` changes nothing, or it is a desync (R113, R116). -/
theorem parse_of_needMore {s : State} (h : (parse s).1.isNeedMore = true) :
    parse s = (.needMoreData false, s) ∨ Desynced s := by
  obtain ⟨-, heq⟩ | ⟨h3, hhead, -⟩ | ⟨-, -, -, -, heq⟩ | ⟨-, -, -, heq⟩ := parse_cases s
  · exact .inl heq
  · exact .inr ⟨h3, hhead⟩
  · exact .inl heq
  · rw [heq, checkFrame_not_needMore] at h
    cases h

/-- The codec is quiescent exactly when `PARSE` answers `NeedMoreData` (R212). -/
theorem quiescent_iff {s : State} : Quiescent s ↔ (parse s).1.isNeedMore = true := by
  unfold Quiescent WrongHead
  obtain ⟨h3, heq⟩ | ⟨-, hhead, heq⟩ | ⟨-, -, -, hlt, heq⟩ | ⟨h0, h1, hle, heq⟩ := parse_cases s
  · exact iff_of_true (.inl h3) (by rw [heq]; rfl)
  · exact iff_of_true (.inr (.inl hhead)) (by rw [heq]; rfl)
  · exact iff_of_true (.inr (.inr hlt)) (by rw [heq]; rfl)
  · refine iff_of_false ?_ (by rw [heq, checkFrame_not_needMore]; exact Bool.false_ne_true)
    rintro (hlt | hhead | hlt)
    · exact absurd ((Nat.le_add_left 3 _).trans hle) (Nat.not_le_of_lt hlt)
    · exact hhead.elim (· h0) (· h1)
    · exact absurd hle (Nat.not_le_of_lt hlt)

theorem parse_of_empty {s : State} (h : s.rxbuf = []) : parse s = (.needMoreData false, s) := by
  have hq : Quiescent s := .inl (by simp [h, Config.headerLen])
  refine (parse_of_needMore (quiescent_iff.mp hq)).resolve_right fun hd => ?_
  simp [Desynced, h, Config.headerLen] at hd

/-! ### Updates that `PARSE` and `DRAIN` do not see -/

/-- The checks of a sliced frame touch a state by setting a flag at most, so they commute with every update that commutes
with that. -/
theorem checkFrame_comm {g : State → State} (hg : ∀ fl s, (g s).setFlag fl = g (s.setFlag fl)) (f : List Byte)
    (s : State) : checkFrame f (g s) = ((checkFrame f s).1, g (checkFrame f s).2) := by
  simp only [checkFrame, raiseOutcome]
  split_ifs
  · rw [hg]
  · rfl
  · rw [hg]

@[simp] theorem rxAppend_deliver (bs : List Byte) (c : Completion) (s : State) :
    (s.deliver c).rxAppend bs = (s.rxAppend bs).deliver c := rfl

/-- Nothing reads what the host has been answered (R13). -/
theorem parse_deliver (c : Completion) (s : State) :
    parse (s.deliver c) = ((parse s).1, (parse s).2.deliver c) := by
  cases h : (parse s).1.isNeedMore with
  | false =>
    obtain ⟨f, rest, hf, hs⟩ := exists_declared_of_parse h
    rw [parse_of_declared hf hs, parse_of_declared hf (s := s.deliver c) hs]
    exact checkFrame_comm (g := State.deliver c) (fun _ _ => rfl) f (s.rxConsume f.length)
  | true =>
    have h' : (parse (s.deliver c)).1.isNeedMore = true := quiescent_iff.mp (quiescent_iff (s := s).mpr h)
    by_cases hd : Desynced s
    · rw [parse_of_desynced hd, parse_of_desynced (s := s.deliver c) hd]
      rfl
    · rw [(parse_of_needMore h).resolve_right hd, (parse_of_needMore h').resolve_right hd]

theorem drain_deliver (c : Completion) (s : State) : drain (s.deliver c) = ((drain s).1, (drain s).2.deliver c) := by
  induction s using drain_induction with
  | stop s h =>
    rw [drain_stop h, drain_stop (by rwa [parse_deliver]), parse_deliver]
  | more s h ih =>
    rw [drain_more h, drain_more (by rwa [parse_deliver]), parse_deliver, ih]

/-! ### Bytes appended before a `DRAIN` -/

/-- A `PARSE` that consumes a declared frame does so whatever is appended behind it (R41). -/
theorem parse_rxAppend_of_consumes {s : State} (bs : List Byte) (h : (parse s).1.isNeedMore = false) :
    parse (s.rxAppend bs) = ((parse s).1, (parse s).2.rxAppend bs) := by
  obtain ⟨f, rest, hf, hs⟩ := exists_declared_of_parse h
  have happend : (s.rxAppend bs).rxbuf = f ++ (rest ++ bs) := by simp [hs]
  have hconsume : (s.rxAppend bs).rxConsume f.length = (s.rxConsume f.length).rxAppend bs := by
    simp [State.rxAppend, State.rxConsume, hs]
  rw [parse_of_declared hf happend, parse_of_declared hf hs, hconsume,
    checkFrame_comm (g := State.rxAppend bs) (fun _ _ => rfl)]

theorem desynced_rxAppend {s : State} (bs : List Byte) (h : Desynced s) : Desynced (s.rxAppend bs) := by
  obtain ⟨h3, hhead⟩ := h
  have hlen : 3 ≤ s.rxbuf.length := h3
  refine ⟨h3.trans (by simp), ?_⟩
  rwa [WrongHead, rxAppend_rxbuf, byteAt_append_left bs (by omega), byteAt_append_left bs (by omega)]

theorem drain_of_desynced {s : State} (h : Desynced s) : drain s = ([.needMoreEvt true], s.setFlag .desync) := by
  have hp := parse_of_desynced h
  rw [drain_stop (by rw [hp]; rfl), hp]
  rfl

/-- Setting a flag again changes nothing (R12). -/
theorem setFlag_setFlag (f : StatusFlag) (s : State) : (s.setFlag f).setFlag f = s.setFlag f := by
  simp [State.setFlag, BitVec.or_assoc]

@[simp] theorem eventOf_isNeedMore (r : ParseResult) : (eventOf r).isNeedMore = r.isNeedMore := by
  cases r <;> rfl

/-- The events of a `DRAIN`: `NeedMoreEvt` is the last one and no other (R112). -/
theorem drain_events (s : State) :
    ∃ es d t, drain s = (es ++ [.needMoreEvt d], t) ∧ ∀ e ∈ es, e.isNeedMore = false := by
  induction s using drain_induction with
  | stop s h =>
    obtain hp | hd := parse_of_needMore h
    · exact ⟨[], false, s, by rw [drain_stop h, hp]; rfl, by simp⟩
    · exact ⟨[], true, s.setFlag .desync, drain_of_desynced hd, by simp⟩
  | more s h ih =>
    obtain ⟨es, d, t, hes, hmore⟩ := ih
    exact ⟨eventOf (parse s).1 :: es, d, t, by rw [drain_more h, hes, List.cons_append],
      List.forall_mem_cons.mpr ⟨by rwa [eventOf_isNeedMore], hmore⟩⟩

theorem results_of_drain {s t : State} {es : List Event} (h : drain s = (es, t)) : t.results = s.results := by
  obtain ⟨-, -, hres, -⟩ := drain_frame s
  rwa [h] at hres

/-- A `DRAIN` in between loses nothing: draining before and after bytes are appended gives the events of one `DRAIN` after
them, but for the first one's own last event, and leaves the same state (R41). -/
theorem drain_rxAppend (bs : List Byte) (s : State) :
    drain (s.rxAppend bs) =
      ((drain s).1.dropLast ++ (drain ((drain s).2.rxAppend bs)).1, (drain ((drain s).2.rxAppend bs)).2) := by
  induction s using drain_induction with
  | stop s h =>
    rw [drain_stop h]
    obtain hp | hd := parse_of_needMore h
    · simp [hp]
    · have hd' := desynced_rxAppend bs hd
      have hagain : Desynced ((s.setFlag .desync).rxAppend bs) := hd'
      have hflag : ((s.setFlag .desync).rxAppend bs).setFlag .desync = (s.rxAppend bs).setFlag .desync :=
        setFlag_setFlag .desync (s.rxAppend bs)
      rw [parse_of_desynced hd, drain_of_desynced hd', drain_of_desynced hagain, hflag]
      rfl
  | more s h ih =>
    obtain ⟨es, d, t, hes, -⟩ := drain_events (parse s).2
    have hp := parse_rxAppend_of_consumes bs h
    have hne : (drain (parse s).2).1 ≠ [] := by simp [hes]
    rw [drain_more h, drain_more (by rwa [hp]), hp, ih, List.dropLast_cons_of_ne_nil hne, List.cons_append]

/-! ### `RX_PUSH` and reception of bytes that fit -/

theorem pushStep_of_fits {bs : List Byte} {s : State} (h : s.rxFits bs = true) :
    pushStep bs s = (s.rxAppend bs).deliver .ok := by
  simp [pushStep, rxPush, h]

/-- Two deliveries, each drained, are two receptions. -/
theorem runInstrs_rxPush_drain_twice (bs cs : List Byte) (s : State) :
    runInstrs [.rxPush bs, .drain, .rxPush cs, .drain] s = .next (receive cs (receive bs s)) := by
  rw [runInstrs_cons_of_next _ (exec_rxPush bs s), runInstrs_cons_of_next _ (exec_drain _), runInstrs_rxPush_drain,
    receive, receive, receive]

/-- Received bytes that fit are appended and drained, with the two results handed to the host (R9, R204). -/
theorem receive_of_fits {bs : List Byte} {s : State} (h : s.rxFits bs = true) :
    receive bs s = ((drain (s.rxAppend bs)).2.deliver .ok).deliver (.drain (drain (s.rxAppend bs)).1) := by
  rw [receive, pushStep_of_fits h, drainStep, drain_deliver]

section
variable {s1 s2 : List Byte} {s : State} (hfits : s.rxFits (s1 ++ s2) = true)
include hfits

theorem rxFits_left : s.rxFits s1 = true :=
  admits_of_le _ (by simp) hfits

/-- What fits whole still fits after a cut: the `DRAIN` in between only removes bytes. -/
theorem rxFits_receive : (receive s1 s).rxFits s2 = true := by
  obtain ⟨hcap, -, -, k, hbuf⟩ := drain_frame (s.rxAppend s1)
  rw [receive_of_fits (rxFits_left hfits), State.rxFits, deliver_rxcap, deliver_rxcap, hcap, rxAppend_rxcap]
  refine admits_of_le _ ?_ hfits
  simp only [State.rxLen, deliver_rxbuf, hbuf, rxAppend_rxbuf, List.length_drop, List.length_append]
  omega

variable {es1 es2 : List Event} {d1 : Bool} {u t : State}
  (h1 : drain (s.rxAppend s1) = (es1 ++ [.needMoreEvt d1], u)) (h2 : drain (u.rxAppend s2) = (es2, t))
include h1 h2

/-- A delivery made whole: the events of the `DRAIN` at the cut but its last one, then those of the `DRAIN` after it. -/
theorem receive_append_of_fits : receive (s1 ++ s2) s = (t.deliver .ok).deliver (.drain (es1 ++ es2)) := by
  have happend : s.rxAppend (s1 ++ s2) = (s.rxAppend s1).rxAppend s2 := by simp [State.rxAppend]
  rw [receive_of_fits hfits, happend, drain_rxAppend, h1, h2, List.dropLast_concat]

/-- The same delivery cut in two: the same final state, but for each part's own answers. -/
theorem receive_receive_of_fits :
    receive s2 (receive s1 s) =
      (((t.deliver .ok).deliver (.drain (es1 ++ [.needMoreEvt d1]))).deliver .ok).deliver (.drain es2) := by
  rw [receive_of_fits (rxFits_receive hfits), receive_of_fits (rxFits_left hfits), rxAppend_deliver, rxAppend_deliver,
    drain_deliver, drain_deliver, h1, h2]

end

/-! ### Whole frames -/

/-- A frame as `frameBytes` builds it, at the front of the buffer, is delivered and consumed exactly (R111). -/
theorem parse_frameBytes {s : State} {t c : Byte} {p rest : List Byte} (hp : p.length ≤ 252)
    (hs : s.rxbuf = frameBytes t c p ++ rest) :
    parse s = (.frame t c p, { s with rxbuf := rest }) := by
  have hwf := wellFormedFrame_frameBytes t c hp
  have hconsume : s.rxConsume (frameBytes t c p).length = { s with rxbuf := rest } := by
    rw [State.rxConsume, hs, List.drop_left]
  rw [parse_of_declared (declaredFrame_of_wellFormed hwf) hs, checkFrame_of_wellFormed hwf, hconsume]
  simp [frameBytes]

theorem rxClear_of_empty {s : State} (h : s.rxbuf = []) : s.rxClear = s := by
  rw [State.rxClear, ← h]

/-- Whole frames, any number of them, are delivered in order and leave the buffer empty (R40). -/
theorem drain_frames {frames : List (Byte × Byte × List Byte)} (hlen : ∀ f ∈ frames, f.2.2.length ≤ 252) {s : State}
    (hs : s.rxbuf = frames.flatMap (fun f => frameBytes f.1 f.2.1 f.2.2)) :
    drain s = (frames.map (fun f => .frameEvt f.1 f.2.1 f.2.2 (pdec f.2.1 f.2.2)) ++ [.needMoreEvt false],
      s.rxClear) := by
  induction frames generalizing s with
  | nil =>
    have hp := parse_of_empty hs
    rw [drain_stop (by rw [hp]; rfl), hp, rxClear_of_empty hs]
    rfl
  | cons f fs ih =>
    obtain ⟨hf, hfs⟩ := List.forall_mem_cons.mp hlen
    have hp := parse_frameBytes hf hs
    rw [drain_more (by rw [hp]; rfl), hp, ih hfs rfl]
    rfl

/-! ### The statements -/

/-- Settles O33, by induction on the list of frames (`drain_frames`). -/
theorem drainDeliversWholeFrames : Obligations.DrainDeliversWholeFrames := by
  intro frames s bytes hlen hbytes hempty hcap
  have hfits : s.rxFits bytes = true := by simpa [State.rxFits, State.rxLen, hempty] using hcap
  have hbuf : (s.rxAppend bytes).rxbuf = frames.flatMap (fun f => frameBytes f.1 f.2.1 f.2.2) := by
    simp [hempty, hbytes]
  rw [runInstrs_rxPush_drain, receive_of_fits hfits, drain_frames hlen hbuf]
  simp [State.deliver, State.rxClear, State.rxAppend, hempty]

/-- Settles O35: the `DRAIN` at the cut loses nothing (`drain_rxAppend`), by induction along the decode loop. -/
theorem fragmentationInvariance : Obligations.FragmentationInvariance := by
  intro s s1 s2 hcap
  obtain ⟨e1, d1, u, h1, hmore1⟩ := drain_events (s.rxAppend s1)
  obtain ⟨e2, d, t, h2, hmore2⟩ := drain_events (u.rxAppend s2)
  have hwhole := receive_append_of_fits hcap h1 h2
  have hcut := receive_receive_of_fits hcap h1 h2
  have hres : t.results = s.results := by
    rw [results_of_drain h2, rxAppend_results, results_of_drain h1, rxAppend_results]
  refine ⟨receive (s1 ++ s2) s, receive s2 (receive s1 s), e1, e2, d1, d, runInstrs_rxPush_drain _ s,
    runInstrs_rxPush_drain_twice s1 s2 s, ?_, ?_, List.forall_mem_append.mpr ⟨hmore1, hmore2⟩, ?_, ?_⟩
  · simp [hwhole, hres]
  · simp [hcut, hres]
  · simp [hwhole, hcut]
  · simp [hwhole, hcut]

/-- Settles O10, by the step's equation at two simultaneous requests. -/
theorem simultaneousRequestsStop : Obligations.SimultaneousRequestsStop :=
  fun _ _ _ _ hturn => step_of_simultaneous hturn

end Sys2Proof.Machine
end

section
/-! Proofs of the statements of 30_encoding.md: the words of an instruction and the instruction of its words (R50, R58, R59,
R65, R68), the row a received header matches, and the mask of the RELAY frame (R61). -/

namespace Sys2Proof

/-! ### The row of a COMMAND byte -/

/-- A COMMAND byte is unnamed, or that of a named command (R55). -/
theorem commandOfByte_cases (c : Byte) : commandOfByte c = none ∨ ∃ d : Command, c = d.byte := by
  cases hc : commandOfByte c with
  | none => exact .inl rfl
  | some d => exact .inr ⟨d, (byte_of_commandOfByte hc).symm⟩

theorem commandOfByte_eq_none_iff {c : Byte} : commandOfByte c = none ↔ c ∉ commandList.map Command.byte := by
  simp [commandOfByte]

section
variable (l t : Byte) (p : List Byte) (k : Byte)

theorem rxInstr_of_unnamed {c : Byte} (hc : commandOfByte c = none) : rxInstr l t c p k = .rxUnnamed l t c p k := by
  simp [rxInstr, hc]

theorem rxInstr_byte_ne_rxUnnamed (d : Command) (c : Byte) : rxInstr l t d.byte p k ≠ .rxUnnamed l t c p k := by
  cases d <;> nofun

theorem tableRow_rxInstr_byte (d : Command) : ∃ mnemonic, tableRow (rxInstr l t d.byte p k) = rxRow mnemonic d := by
  cases d <;> exact ⟨_, rfl⟩

theorem rxInstr_eq_rxUnnamed_iff {c : Byte} : rxInstr l t c p k = .rxUnnamed l t c p k ↔ commandOfByte c = none := by
  refine ⟨fun h => ?_, rxInstr_of_unnamed l t p k⟩
  obtain hc | ⟨d, rfl⟩ := commandOfByte_cases c
  · exact hc
  · exact absurd h (rxInstr_byte_ne_rxUnnamed l t p k d d.byte)

/-- The words of a received row are the frame with its fields, the row's own COMMAND byte among them (R68). -/
theorem encode_rxInstr (c : Byte) : encode (rxInstr l t c p k) = .rx (wireFrame l t c p k) := by
  obtain hc | ⟨d, rfl⟩ := commandOfByte_cases c
  · rw [rxInstr_of_unnamed l t p k hc, encode]
  · cases d <;> rfl

/-- A received frame is classified by its COMMAND field, whatever the other fields (R68). -/
theorem decodeRx_wireFrame (c : Byte) : decodeRx (wireFrame l t c p k) = .ok (rxInstr l t c p k) := by
  simp [decodeRx, wireFrame, frameBody]

end

/-- Received bytes that decode are the frame of five fields, and give the row of the COMMAND field. -/
theorem decodeRx_ok {bytes : List Byte} {i : Instr} (h : decodeRx bytes = .ok i) :
    ∃ l t c p k, bytes = wireFrame l t c p k ∧ i = rxInstr l t c p k := by
  revert h
  fun_cases decodeRx bytes with
  | case1 h0 h1 l t c rest hhead k hlast =>
    rintro ⟨⟩
    obtain ⟨rfl, rfl⟩ := hhead
    obtain ⟨p, rfl⟩ := List.getLast?_eq_some_iff.mp hlast
    exact ⟨l, t, c, p, k, rfl, by rw [List.dropLast_concat]⟩
  | case2 | case3 | case4 => nofun

/-! ### Frames to be sent -/

theorem decodeTx_readFrame (c : Byte) {p : List Byte} (hp : p.length ≤ Config.maxPayload) :
    decodeTx (readFrame c p) = .ok (.frameRead c p) := by
  simp [decodeTx, readFrame, frameBytes, wireFrame, frameBody, hp]

theorem decodeTx_relayBytes (c : Byte) (st : Bool) (m0 m1 : Byte) :
    decodeTx (frameBytes Config.typeWrite c [flagByte st, m0, m1]) = .ok (.frameRelay c st m0 m1) := by
  cases st <;> simp [decodeTx, frameBytes, wireFrame, frameBody, Config.typeRead, Config.typeWrite, flagByte]

/-- A frame to be sent decodes only when an encoder returns exactly it (R95). -/
theorem decodeTx_ok {bytes : List Byte} {i : Instr} (h : decodeTx bytes = .ok i) :
    (∃ c p, p.length ≤ Config.maxPayload ∧ i = .frameRead c p ∧ bytes = readFrame c p) ∨
    ∃ c st m0 m1, i = .frameRelay c st m0 m1 ∧ bytes = frameBytes Config.typeWrite c [flagByte st, m0, m1] := by
  revert h
  fun_cases decodeTx bytes with
  | case1 _ _ _ c rest _ hread =>
    rw [if_pos hread]
    rintro ⟨⟩
    exact .inl ⟨c, rest.dropLast, hread.1, rfl, hread.2⟩
  | case2 _ _ _ _ _ _ hread => rw [if_neg hread]; nofun
  | case3 _ _ _ c _ flag m0 m1 _ _ hon =>
    rw [if_pos hon]
    rintro ⟨⟩
    obtain ⟨rfl, hbytes⟩ := hon
    exact .inr ⟨c, true, m0, m1, rfl, hbytes⟩
  | case4 _ _ _ c _ flag m0 m1 _ _ hon hoff =>
    rw [if_neg hon, if_pos hoff]
    rintro ⟨⟩
    obtain ⟨rfl, hbytes⟩ := hoff
    exact .inr ⟨c, false, m0, m1, rfl, hbytes⟩
  | case5 _ _ _ _ _ _ _ _ _ _ hon hoff => rw [if_neg hon, if_neg hoff]; nofun
  | case6 | case7 | case8 | case9 => nofun

/-! ### Headers and rows -/

@[simp] theorem rowFixed_value (v : Byte) : (rowFixed v).value = v := rfl

@[simp] theorem and_rowFixed_mask (v b : Byte) : b &&& (rowFixed v).mask = b := BitVec.and_allOnes

/-- A named `RXFRAME` row matches exactly the headers with HEAD and its COMMAND byte; LENGTH and TYPE are free (R68). -/
theorem rxRow_matchesBytes_iff {mnemonic : String} {c : Command} {header : List Byte} :
    (rxRow mnemonic c).matchesBytes header = true ↔ ∃ l t, header = [0x6A, 0xA6, l, t, c.byte] := by
  constructor
  · intro h
    obtain ⟨hlen, hbytes⟩ := Bool.and_eq_true_iff.mp h
    obtain ⟨h0, h1, l, t, b, rfl⟩ : ∃ h0 h1 l t b, [h0, h1, l, t, b] = header := by
      simpa [rxRow, frameRow, List.length_eq_succ_iff] using hlen
    simpa [rxRow, frameRow, rowFree, Config.head0, Config.head1] using hbytes
  · rintro ⟨l, t, rfl⟩
    exact Laws.RowMatch.rxRow_matches mnemonic c l t [] 0

/-! ### The mask bytes of a RELAY frame -/

theorem getLsbD_one_shiftLeft_sub {base n k : Nat} (hn : base ≤ n) (hk : k < 8) :
    (1#8 <<< (n - base)).getLsbD k = decide (base + k = n) := by
  rw [Bool.eq_iff_iff]
  simp [hk]
  omega

/-- One switch adds the bit that its index names, and no other (R61). -/
theorem getLsbD_maskStep (base n : Nat) (m : Byte) {k : Nat} (hk : k < 8) :
    (if base ≤ n ∧ n ≤ base + 7 then m ||| (1#8 <<< (n - base)) else m).getLsbD k =
      (m.getLsbD k || decide (base + k = n)) := by
  split
  next hn => rw [BitVec.getLsbD_or, getLsbD_one_shiftLeft_sub hn.1 hk]
  next hn => simp [show base + k ≠ n by omega]

/-- Bit `k` of the mask says whether switch `base + k` is in the set (R61). -/
theorem getLsbD_maskByte (base : Nat) (sw : List Nat) {k : Nat} (hk : k < 8) :
    (maskByte base sw).getLsbD k = decide (base + k ∈ sw) := by
  induction sw using List.reverseRecOn with
  | nil => simp [maskByte]
  | append_singleton sw n ih =>
    rw [maskByte, List.foldl_concat, ← maskByte, getLsbD_maskStep base n _ hk, ih]
    simp

/-! ### The statements -/

/-- Settles O1, by the format of the instruction: a select with its operands, a frame to be sent, or a received frame, where
the lookup of the row's own COMMAND byte finds the row. -/
theorem decodeEncodeWellFormed : Obligations.DecodeEncodeWellFormed := by
  intro i hwf
  cases i with
  | csum | encRead | encRelay | rxPush | parse | drain | pdec | reset => rfl
  | frameRead c p => exact decodeTx_readFrame c (of_decide_eq_true hwf)
  | frameRelay c st m0 m1 => exact decodeTx_relayBytes c st m0 m1
  | rxUnnamed l t c p k =>
    have hc : commandOfByte c = none := Option.isNone_iff_eq_none.mp (Bool.and_eq_true_iff.mp hwf).1
    rw [encode, decode, decodeRx_wireFrame, rxInstr_of_unnamed l t p k hc]
  | _ => exact decodeRx_wireFrame ..

/-- Settles O2, by what decodes: a received frame of any fields, and a frame to be sent only as an encoder returns it. -/
theorem encodeDecodeFrames : Obligations.EncodeDecodeFrames := by
  refine fun i bytes => ⟨fun h => ?_, fun h => ?_⟩
  · obtain ⟨l, t, c, p, k, rfl, rfl⟩ := decodeRx_ok h
    exact encode_rxInstr l t p k c
  · obtain ⟨c, p, hp, rfl, rfl⟩ | ⟨c, st, m0, m1, rfl, rfl⟩ := decodeTx_ok h
    · exact ⟨rfl, decide_eq_true hp⟩
    · exact ⟨rfl, rfl⟩

/-- Settles O4: the header ends in the COMMAND byte of both commands, and no two commands share a byte. -/
theorem namedRowsExclusive : Obligations.NamedRowsExclusive := by
  intro c d m n header hc hd
  obtain ⟨l, t, rfl⟩ := rxRow_matchesBytes_iff.mp hc
  obtain ⟨l', t', heq⟩ := rxRow_matchesBytes_iff.mp hd
  exact byte_injective (by simpa using congrArg List.getLast? heq)

/-- Settles O5, by whether the COMMAND byte is a named one. -/
theorem receivedHeaderClassifiedByCommand : Obligations.ReceivedHeaderClassifiedByCommand := by
  intro l t c p k
  refine ⟨rxInstr l t c p k, decodeRx_wireFrame l t p k c, ?_,
    (rxInstr_eq_rxUnnamed_iff l t p k).trans commandOfByte_eq_none_iff⟩
  obtain hc | ⟨d, rfl⟩ := commandOfByte_cases c
  · rw [rxInstr_of_unnamed l t p k hc]
    exact Laws.RowMatch.rxUnnamed l t c p k
  · obtain ⟨mnemonic, hrow⟩ := tableRow_rxInstr_byte l t p k d
    rw [hrow]
    exact rxRow_matchesBytes_iff.mpr ⟨l, t, rfl⟩

end Sys2Proof

namespace Sys2Proof.Machine

@[simp] theorem exec_encRelay (c : Byte) (sw : List Nat) (st : Bool) (s : State) :
    exec (.encRelay c sw st) s = .next (s.deliver (.bytes (relayFrame c sw st))) := rfl

/-- The bytes of a RELAY frame before its CHECKSUM: LENGTH is 06 and TYPE is 01 (R59). -/
theorem relayFrame_eq (c : Byte) (sw : List Nat) (st : Bool) :
    relayFrame c sw st =
      frameBody 0x06 0x01 c (relayPayload sw st) ++ [checksum (frameBody 0x06 0x01 c (relayPayload sw st))] := rfl

/-- Settles O17, by the bits of the two mask bytes (`getLsbD_maskByte`). -/
theorem encRelayFrame : Obligations.EncRelayFrame := by
  intro c sw st s
  refine ⟨relayMask0 sw, relayMask1 sw, frameBody 0x06 0x01 c (relayPayload sw st), fun n hlo hhi => ?_,
    fun n hlo hhi => ?_, rfl, ?_⟩
  · rw [relayMask0, getLsbD_maskByte 1 sw (by omega), Nat.add_sub_cancel' hlo]
  · rw [relayMask1, getLsbD_maskByte 9 sw (by omega), Nat.add_sub_cancel' hlo]
  · rw [exec_encRelay, relayFrame_eq, State.deliver]

end Sys2Proof.Machine
end

section
/-! Proofs of the statements of 40_checksum.md: the checksum as a residue of the byte sum (R80, R81), its accumulator form
(R82), what HEAD adds (R83), and what one changed byte does (R84), also to a `PARSE` (R120). -/

namespace Sys2Proof

/-! ### The sum of the bytes -/

@[simp] theorem byteSum_nil : byteSum [] = 0 := rfl

@[simp] theorem byteSum_cons (x : Byte) (bs : List Byte) : byteSum (x :: bs) = x.toNat + byteSum bs :=
  List.sum_cons

@[simp] theorem byteSum_append (bs cs : List Byte) : byteSum (bs ++ cs) = byteSum bs + byteSum cs := by
  simp [byteSum]

/-! ### The checksum -/

/-- The checksum as the spec writes it, over the integers (R80, R81, D7). -/
theorem checksum_toNat_int (bs : List Byte) : ((checksum bs).toNat : Int) = ((byteSum bs : Int) - 16) % 256 := by
  simp only [checksum, BitVec.toNat_ofInt, Config.ckOffset, Config.ckMod]
  omega

/-- The checksum over the natural numbers: to subtract 16 is to add 240 (R82). -/
theorem checksum_toNat (bs : List Byte) : (checksum bs).toNat = (byteSum bs + 240) % 256 := by
  have h := checksum_toNat_int bs
  omega

/-- One more byte is added with the carry discarded (R82). -/
theorem checksum_concat (bs : List Byte) (x : Byte) : checksum (bs ++ [x]) = checksum bs + x := by
  apply BitVec.eq_of_toNat_eq
  simp only [BitVec.toNat_add, checksum_toNat, byteSum_append, byteSum_cons, byteSum_nil]
  omega

/-- The checksum is the accumulator that starts at `F0` (R82). -/
theorem checksum_eq_checksumStream (bs : List Byte) : checksum bs = checksumStream bs := by
  induction bs using List.reverseRecOn with
  | nil => rfl
  | append_singleton bs x ih => rw [checksum_concat, ih, checksumStream, checksumStream, List.foldl_concat]

/-- HEAD sums to 16 modulo 256, which is what the checksum takes off (R83). -/
theorem checksum_head_toNat (bs : List Byte) : (checksum (0x6A :: 0xA6 :: bs)).toNat = byteSum bs % 256 := by
  simp only [checksum_toNat, byteSum_cons, BitVec.reduceToNat]
  omega

/-- The checksum is injective in each byte (R84). -/
theorem checksum_ne_of_byte_ne (u v : List Byte) {x y : Byte} (h : x ≠ y) :
    checksum (u ++ [x] ++ v) ≠ checksum (u ++ [y] ++ v) := by
  refine fun heq => h (BitVec.eq_of_toNat_eq ?_)
  have hsum := congrArg BitVec.toNat heq
  simp only [checksum_toNat, byteSum_append, byteSum_cons, byteSum_nil] at hsum
  omega

/-! ### A frame with its last byte apart -/

@[simp] theorem byteAt_concat_length (f : List Byte) (k : Byte) : byteAt (f ++ [k]) f.length = k := by
  simp [byteAt]

@[simp] theorem sliceBytes_concat_length (f : List Byte) (k : Byte) : sliceBytes (f ++ [k]) 0 f.length = f := by
  simp [sliceBytes]

/-- The CHECKSUM field of a well-formed frame is the checksum of the bytes before it (R52, R57). -/
theorem checksum_of_wellFormed_concat {f : List Byte} {k : Byte} (h : WellFormedFrame (f ++ [k])) :
    checksum f = k := by
  obtain ⟨-, -, -, -, hck⟩ := h
  simpa using hck.symm

theorem declaredFrame_iff {l k : Byte} {body : List Byte} :
    DeclaredFrame ([0x6A, 0xA6, l] ++ body ++ [k]) ↔ body.length + 1 = l.toNat := by
  have hlen : ([0x6A, 0xA6, l] ++ body ++ [k]).length = body.length + 1 + 3 := by simp
  refine ⟨fun h => ?_, fun h => ⟨rfl, rfl, ?_⟩⟩
  · exact Nat.add_right_cancel (hlen.symm.trans h.length_eq)
  · rw [hlen, h]
    rfl

end Sys2Proof

namespace Sys2Proof.Machine

@[simp] theorem exec_csum (b : List Byte) (s : State) :
    exec (.csum b) s = .next (s.deliver (.csum (checksum b))) := rfl

/-! ### A frame with a wrong checksum -/

theorem checkFrame_of_checksum_ne {f : List Byte} {k : Byte} (hlen : 3 ≤ (byteAt (f ++ [k]) 2).toNat)
    (hck : checksum f ≠ k) (s : State) :
    checkFrame (f ++ [k]) s = (.checksumError (checksum f) k, s.setFlag .ckerr) := by
  obtain ⟨hshort, -⟩ | ⟨-, hgood, -⟩ | ⟨-, -, heq⟩ := checkFrame_cases (f ++ [k]) s
  · omega
  · exact absurd (by simpa using hgood) hck
  · simpa using heq

/-- A declared frame whose last byte is not its checksum is dropped whole, what follows it stays (R114). -/
theorem parse_of_checksum_ne {s : State} {l k : Byte} {body rest : List Byte}
    (hs : s.rxbuf = [0x6A, 0xA6, l] ++ body ++ [k] ++ rest) (h3 : 3 ≤ l.toNat) (hlen : body.length + 1 = l.toNat)
    (hck : checksum ([0x6A, 0xA6, l] ++ body) ≠ k) :
    parse s =
      (.checksumError (checksum ([0x6A, 0xA6, l] ++ body)) k, State.setFlag .ckerr { s with rxbuf := rest }) := by
  rw [parse_of_declared (declaredFrame_iff.mpr hlen) hs, checkFrame_of_checksum_ne (f := [0x6A, 0xA6, l] ++ body) h3 hck,
    State.rxConsume, hs, List.drop_left]

/-! ### The statements -/

/-- Settles O13: the checksum is the accumulator, by induction from the last byte (`checksum_eq_checksumStream`). -/
theorem csumStreamingForm : Obligations.CsumStreamingForm := by
  intro b s
  rw [exec_csum, checksum_eq_checksumStream]
  rfl

/-- Settles O14, by what HEAD adds to the sum (`checksum_head_toNat`). -/
theorem headCancellation : Obligations.HeadCancellation :=
  fun t _ => ⟨checksum (0x6A :: 0xA6 :: t), rfl, checksum_head_toNat t⟩

/-- Settles O15, by the checksum's injectivity in each byte (`checksum_ne_of_byte_ne`). -/
theorem singleByteChangesChecksum : Obligations.SingleByteChangesChecksum :=
  fun u v _ _ _ hxy => ⟨_, _, rfl, rfl, checksum_ne_of_byte_ne u v hxy⟩

/-- Settles O30: the changed frame still declares its own length, and its checksum is no longer the one it carries. -/
theorem corruptedByteDropped : Obligations.CorruptedByteDropped := by
  intro s l x y k u v rest hwf hxy hs
  have hlen : (u ++ [x] ++ v).length + 1 = l.toNat := declaredFrame_iff.mp (declaredFrame_of_wellFormed hwf)
  have hlen' : (u ++ [y] ++ v).length + 1 = l.toNat := by simpa using hlen
  have hck : checksum ([0x6A, 0xA6, l] ++ u ++ [y] ++ v) ≠ k :=
    checksum_of_wellFormed_concat hwf ▸ (checksum_ne_of_byte_ne _ v hxy).symm
  obtain ⟨-, -, h3, -, -⟩ := hwf
  refine ⟨_, hck, ?_⟩
  rw [exec_parse, parse_of_checksum_ne hs h3 hlen' hck]
  rfl

/-- Settles O12, by the checksum's value over the integers (`checksum_toNat_int`). -/
theorem csumResult : Obligations.CsumResult :=
  fun b s => ⟨exec_csum b s, checksum_toNat_int b⟩

end Sys2Proof.Machine
end

section
/-! Proofs of the statements of 41_encode.md: the frame either encoder returns (R90 to R92), its form (R95) and its way back
through `PARSE` (R93). -/

namespace Sys2Proof.Machine

/-! ### `ENC_READ` on either side of its bound -/

theorem exec_encRead_of_le (c : Byte) {p : List Byte} (hp : p.length ≤ 252) (s : State) :
    exec (.encRead c p) s = .next (s.deliver (.bytes (readFrame c p))) := by
  have h : encReadResult c p = .bytes (readFrame c p) := if_pos hp
  rw [← h]
  rfl

theorem exec_encRead_of_gt (c : Byte) {p : List Byte} (hp : 252 < p.length) (s : State) :
    exec (.encRead c p) s = .next (s.deliver (.payloadTooLong p.length)) := by
  have h : encReadResult c p = .payloadTooLong p.length := if_neg (Nat.not_le_of_lt hp)
  rw [← h]
  rfl

/-! ### The frames an encoder returns -/

theorem wellFormedFrame_readFrame (c : Byte) {p : List Byte} (hp : p.length ≤ 252) :
    WellFormedFrame (readFrame c p) :=
  wellFormedFrame_frameBytes Config.typeRead c hp

theorem wellFormedFrame_relayFrame (c : Byte) (sw : List Nat) (st : Bool) : WellFormedFrame (relayFrame c sw st) :=
  wellFormedFrame_frameBytes Config.typeWrite c (by simp [relayPayload])

/-- A frame pushed into an empty buffer fits every capacity, and `PARSE` takes it out whole again (R110, R111). -/
theorem runInstrs_rxPush_parse_frameBytes (t c : Byte) {p : List Byte} (hp : p.length ≤ 252) {s : State}
    (hempty : s.rxbuf = []) :
    runInstrs [.rxPush (frameBytes t c p), .parse] s =
      .next { s with results := s.results ++ [.ok, .parse (.frame t c p)] } := by
  have hfits : s.rxFits (frameBytes t c p) = true := by
    refine admits_of_le_maxFrame _ ?_
    rw [State.rxLen, hempty, frameBytes_length, List.length_nil]
    omega
  have hbuf : (s.rxAppend (frameBytes t c p)).rxbuf = frameBytes t c p ++ [] := by simp [hempty]
  rw [runInstrs_cons_of_next _ (exec_rxPush _ s), runInstrs_cons_of_next _ (exec_parse _), runInstrs_nil,
    pushStep_of_fits hfits, parse_deliver, parse_frameBytes hp hbuf]
  simp [State.deliver, State.rxAppend, hempty]

/-! ### The statements -/

/-- Settles O18: both frames are `frameBytes` of a payload within the bound. -/
theorem encodersEmitWellFormedFrames : Obligations.EncodersEmitWellFormedFrames :=
  fun c _ sw st s =>
    ⟨fun hp => ⟨_, wellFormedFrame_readFrame c hp, exec_encRead_of_le c hp s⟩,
      _, wellFormedFrame_relayFrame c sw st, exec_encRelay c sw st s⟩

/-- Settles O34: both frames come back through `PARSE` (`runInstrs_rxPush_parse_frameBytes`); the RELAY frame's mask bytes
are those of `encRelayFrame`. -/
theorem encodeParseRoundTrip : Obligations.EncodeParseRoundTrip := by
  intro c p sw st s hempty
  refine ⟨fun hp => ⟨readFrame c p, exec_encRead_of_le c hp s, runInstrs_rxPush_parse_frameBytes 0xFE c hp hempty⟩, ?_⟩
  obtain ⟨m0, m1, _, hm0, hm1, rfl, hexec⟩ := encRelayFrame c sw st s
  exact ⟨frameBytes 0x01 c [if st then 0x01 else 0x00, m0, m1], m0, m1, hexec, hm0, hm1,
    runInstrs_rxPush_parse_frameBytes 0x01 c (by simp) hempty⟩

/-- Settles O16, by the bound on the payload; the READ frame is its body and the body's checksum. -/
theorem encReadFrame : Obligations.EncReadFrame :=
  fun c p s =>
    ⟨fun hp => ⟨frameBody (lengthByte p) 0xFE c p, rfl, exec_encRead_of_le c hp s⟩, fun hp => exec_encRead_of_gt c hp s⟩

end Sys2Proof.Machine
end

section
/-! Proofs of the statements of 42_decode.md: `RX_PUSH` that fits (R110), the outcomes of `PARSE` (R111, R113, R114) and what
each changes (R182), `DRAIN` as the loop of `PARSE` and where it ends (R112, R212), and the `RXFRAME` rows received into an
empty buffer. -/

namespace Sys2Proof.Machine

/-! ### `RX_PUSH` within the capacity -/

theorem rxFits_of_capacity {bs : List Byte} {s : State}
    (h : s.rxcap = .infinite ∨ ∃ e, s.rxcap = .bounded e ∧ s.rxbuf.length + bs.length ≤ 258 + e) :
    s.rxFits bs = true := by
  obtain hcap | ⟨e, hcap, hle⟩ := h
  · rw [State.rxFits, hcap, admits_infinite]
  · rw [State.rxFits, hcap, admits_bounded]
    exact decide_eq_true hle

/-- An empty buffer of any capacity takes a whole frame (R6, R52). -/
theorem rxFits_wireFrame_of_empty (l t c : Byte) {p : List Byte} (k : Byte) (hp : p.length ≤ 252) {s : State}
    (hempty : s.rxbuf = []) : s.rxFits (wireFrame l t c p k) = true := by
  refine admits_of_le_maxFrame _ ?_
  rw [State.rxLen, hempty, wireFrame_length, List.length_nil]
  omega

/-! ### `PARSE` as an instruction -/

theorem exec_parse_of_eq {s t : State} {r : ParseResult} (h : parse s = (r, t)) :
    exec .parse s = .next (t.deliver (.parse r)) := by
  rw [exec_parse, h]

/-- The host reads off a `PARSE` its result and, its answer aside, the state it left. -/
theorem parse_eq_of_exec {s t : State} {r : ParseResult} (hx : exec .parse s = .next t)
    (hres : t.results = s.results ++ [.parse r]) : parse s = (r, { t with results := s.results }) := by
  obtain ⟨-, -, hkeep, -⟩ := parse_frame s
  obtain rfl : (parse s).2.deliver (.parse (parse s).1) = t := Host.Outcome.next.inj hx
  have hr : (parse s).1 = r := by simpa [hkeep] using hres
  rw [← hr, ← hkeep]
  rfl

/-- A `PARSE` that answers the same in the state it leaves answers the same again when repeated (R113). -/
theorem runInstrs_parse_parse {s t : State} {r : ParseResult} (hs : parse s = (r, t)) (ht : parse t = (r, t)) :
    runInstrs [.parse, .parse] s = .next { t with results := t.results ++ [.parse r, .parse r] } := by
  have hagain : parse (t.deliver (.parse r)) = (r, t.deliver (.parse r)) := by rw [parse_deliver, ht]
  rw [runInstrs_cons_of_next _ (exec_parse_of_eq hs), runInstrs_cons_of_next _ (exec_parse_of_eq hagain), runInstrs_nil]
  simp [State.deliver]

/-- Too few bytes, with no wrong head seen: `PARSE` waits and changes nothing (R113). -/
theorem parse_of_waiting {s : State} (hq : Quiescent s) (hhead : ¬ Desynced s) : parse s = (.needMoreData false, s) :=
  (parse_of_needMore (quiescent_iff.mp hq)).resolve_right hhead

/-! ### A LENGTH field that fits -/

/-- A LENGTH field that fits its payload is the encoder's, and the payload is within the bound (R51, R56). -/
theorem lengthByte_of_fits {l : Byte} {p : List Byte} (h : p.length + 3 = l.toNat) :
    p.length ≤ 252 ∧ l = lengthByte p := by
  have hp : p.length ≤ 252 := by have := l.isLt; omega
  exact ⟨hp, BitVec.eq_of_toNat_eq (by rw [lengthByte_toNat hp, h])⟩

/-! ### `DRAIN` -/

/-- `DRAIN` where `PARSE` has consumed: the event of its result, then the events of `DRAIN` on what it left (R112). -/
theorem exec_drain_of_parse {s u : State} {r : ParseResult} (hp : parse s = (r, u)) (hr : r.isNeedMore = false) :
    ∃ (v : State) (es : List Event), exec .drain u = .next v ∧ v.results = u.results ++ [.drain es] ∧
      exec .drain s = .next { v with results := u.results ++ [.drain (eventOf r :: es)] } := by
  obtain ⟨-, -, hres, -⟩ := drain_frame u
  refine ⟨drainStep u, (drain u).1, rfl, by simp [drainStep, hres], ?_⟩
  rw [exec_drain, drainStep, drain_more (by rwa [hp]), hp, ← hres]
  rfl

/-- `DRAIN` leaves a state in which `PARSE` would wait (R212). -/
theorem quiescent_drain (s : State) : Quiescent (drain s).2 := by
  induction s using drain_induction with
  | stop s h =>
    rw [drain_stop h]
    obtain ⟨-, hbuf⟩ | ⟨hmore, -⟩ := parse_consumes s
    · rw [Quiescent, WrongHead, hbuf]
      exact quiescent_iff.mpr h
    · simp [h] at hmore
  | more s h ih => rwa [drain_more h]

/-- Every event but the last has taken at least 3 bytes off the buffer (R112, termination). -/
theorem drain_events_length (s : State) : 3 * (drain s).1.length ≤ s.rxbuf.length + 3 := by
  induction s using drain_induction with
  | stop s h => simp [drain_stop h]
  | more s h ih =>
    obtain ⟨hstop, -⟩ | ⟨-, hlen⟩ := parse_consumes s
    · simp [h] at hstop
    · rw [drain_more h, List.length_cons]
      omega

/-! ### One frame received into an empty buffer -/

section
variable {l t c k : Byte} {p : List Byte} {s : State} (hempty : s.rxbuf = [])
include hempty

/-- A frame whose fields agree is delivered with the `PDEC` result of its command, and nothing else changes (R40, R112). -/
theorem receive_of_wellFormedFields (hwf : wellFormedFields l t c p k = true) :
    receive (wireFrame l t c p k) s = { s with
      results := s.results ++ [.ok, .drain [.frameEvt t c p (pdec c p), .needMoreEvt false]] } := by
  simp only [wellFormedFields, Bool.and_eq_true, beq_iff_eq, decide_eq_true_eq] at hwf
  obtain ⟨⟨hp, rfl⟩, rfl⟩ := hwf
  have hfits : s.rxFits (frameBytes t c p) = true := rxFits_wireFrame_of_empty _ t c _ hp hempty
  have hrun := drainDeliversWholeFrames [(t, c, p)] s (frameBytes t c p) (List.forall_mem_singleton.mpr hp) (by simp)
    hempty (by simpa [State.rxFits, State.rxLen, hempty] using hfits)
  rw [runInstrs_rxPush_drain] at hrun
  exact Host.Outcome.next.inj hrun

/-- A frame whose LENGTH fits and whose CHECKSUM is wrong is dropped with its one event, and `CKERR` is set (R112, R114). -/
theorem receive_of_checksum_ne (hlen : p.length + 3 = l.toNat) (hck : checksum ([0x6A, 0xA6, l, t, c] ++ p) ≠ k) :
    receive (wireFrame l t c p k) s = { s with
      status := s.status ||| 0x02,
      results := s.results ++
        [.ok, .drain [.ckErrEvt (checksum ([0x6A, 0xA6, l, t, c] ++ p)) k, .needMoreEvt false]] } := by
  have hfits := rxFits_wireFrame_of_empty l t c k (lengthByte_of_fits hlen).1 hempty
  have hbuf : (s.rxAppend (wireFrame l t c p k)).rxbuf = [0x6A, 0xA6, l] ++ (t :: c :: p) ++ [k] ++ [] := by
    simp [hempty, wireFrame_eq]
  have hp := parse_of_checksum_ne hbuf (by omega) hlen hck
  have hrest := parse_of_empty (s := State.setFlag .ckerr { s.rxAppend (wireFrame l t c p k) with rxbuf := [] }) rfl
  rw [receive_of_fits hfits, drain_more (by rw [hp]; rfl), hp, drain_stop (by rw [hrest]; rfl), hrest]
  simp [State.deliver, State.setFlag, State.rxAppend, eventOf, hempty, flagMask, StatusFlag.bit]

end

/-! ### The rows of the received frames -/

section
variable {l t k : Byte} {p : List Byte}

/-- The frame of a well-formed row, under the row's own COMMAND byte, has fields that agree (R52). -/
theorem wellFormedFields_of_row {c : Byte} {row : Byte × Instr}
    (h : row ∈ (c, Instr.rxUnnamed l t c p k) :: namedRows l t p k) (hwf : row.2.wf = true) :
    wellFormedFields l t row.1 p k = true := by
  obtain rfl | h := List.mem_cons.mp h
  · exact (Bool.and_eq_true_iff.mp hwf).2
  · simp only [namedRows, decoderRows, noDecoderRows, List.cons_append, List.nil_append] at h
    fin_cases h <;> exact hwf

/-- A well-formed row received into an empty buffer (R112; log 5). -/
theorem exec_row_of_wf {c : Byte} {row : Byte × Instr}
    (h : row ∈ (c, Instr.rxUnnamed l t c p k) :: namedRows l t p k) (hwf : row.2.wf = true) {s : State}
    (hempty : s.rxbuf = []) :
    exec row.2 s = .next { s with
      results := s.results ++ [.ok, .drain [.frameEvt t row.1 p (pdec row.1 p), .needMoreEvt false]] } := by
  rw [exec_rxFrameRow h, receive_of_wellFormedFields hempty (wellFormedFields_of_row h hwf)]

theorem exec_decoderRow_of_wf {row : Byte × Instr} (h : row ∈ decoderRows l t p k) (hwf : row.2.wf = true) {s : State}
    (hempty : s.rxbuf = []) :
    exec row.2 s = .next { s with
      results := s.results ++ [.ok, .drain [.frameEvt t row.1 p (pdec row.1 p), .needMoreEvt false]] } :=
  exec_row_of_wf (c := 0) (List.mem_cons_of_mem _ (List.mem_append_left _ h)) hwf hempty

/-- The commands of the 23 rows without a decoder answer `NoDecoder`, whatever the payload (R144 to R151). -/
theorem pdec_noDecoderRow {row : Byte × Instr} (h : row ∈ noDecoderRows l t p k) :
    pdec row.1 p = .noDecoder row.1 := by
  simp only [noDecoderRows] at h
  fin_cases h <;> rfl

end

/-! ### The statements -/

/-- Settles O25: a short buffer and an incomplete frame make `PARSE` wait, a wrong head desynchronises it, and none of the
three changes what the next `PARSE` sees. -/
theorem parseNeedMoreData : Obligations.ParseNeedMoreData := by
  refine fun s => ⟨fun hshort => ?_, fun b0 b1 b2 rest hs hhead => ?_, fun l rest hs hlen => ?_⟩
  · have hp := parse_of_waiting (s := s) (.inl hshort) fun hd => Nat.not_le_of_lt hshort hd.1
    exact ⟨exec_parse_of_eq hp, runInstrs_parse_parse hp hp⟩
  · have hd : Desynced s := by
      rw [Desynced, WrongHead, hs]
      exact ⟨by simp [Config.headerLen], hhead⟩
    have hagain : parse (s.setFlag .desync) = (.needMoreData true, s.setFlag .desync) := by
      rw [parse_of_desynced (s := s.setFlag .desync) hd, setFlag_setFlag]
    exact ⟨exec_parse_of_eq (parse_of_desynced hd), runInstrs_parse_parse (parse_of_desynced hd) hagain⟩
  · have hq : Quiescent s := by
      rw [Quiescent, WrongHead, hs]
      exact .inr (.inr (by simpa [byteAt, Config.frameOverhead] using hlen))
    have hhead : ¬ Desynced s := by
      rw [Desynced, WrongHead, hs]
      exact fun hd => hd.2.elim (· rfl) (· rfl)
    have hp := parse_of_waiting hq hhead
    exact ⟨exec_parse_of_eq hp, runInstrs_parse_parse hp hp⟩

/-- Settles O26, by `parse_of_checksum_ne`. -/
theorem parseChecksumError : Obligations.ParseChecksumError :=
  fun _ _ _ _ _ hs h3 hlen hck => exec_parse_of_eq (parse_of_checksum_ne hs h3 hlen hck)

/-- Settles O27: a frame with a fitting LENGTH and a good checksum is the one `frameBytes` builds. -/
theorem parseDeliversFrame : Obligations.ParseDeliversFrame := by
  intro s l t c p rest hlen hs
  obtain ⟨hp, rfl⟩ := lengthByte_of_fits hlen
  exact exec_parse_of_eq (parse_frameBytes hp hs)

/-- Settles O29, by the four ways of a `PARSE` and the three outcomes of a sliced frame. -/
theorem parseOutcomeEffects : Obligations.ParseOutcomeEffects := by
  intro s
  obtain ⟨-, h⟩ | ⟨-, -, h⟩ | ⟨-, -, -, -, h⟩ | ⟨-, -, hle, h⟩ := parse_cases s
  · exact ⟨_, _, exec_parse_of_eq h, rfl, rfl, rfl, rfl, rfl⟩
  · exact ⟨_, _, exec_parse_of_eq h, rfl, rfl, rfl, rfl, rfl⟩
  · exact ⟨_, _, exec_parse_of_eq h, rfl, rfl, rfl, rfl, rfl⟩
  · obtain ⟨-, hc⟩ | ⟨-, -, hc⟩ | ⟨-, -, hc⟩ := checkFrame_cases
      (s.rxbuf.take ((byteAt s.rxbuf 2).toNat + 3)) (s.rxConsume ((byteAt s.rxbuf 2).toNat + 3))
    · exact ⟨_, _, exec_parse_of_eq (h.trans hc), rfl, rfl, rfl, hle, rfl, rfl⟩
    · exact ⟨_, _, exec_parse_of_eq (h.trans hc), rfl, rfl, rfl, hle, rfl, rfl⟩
    · exact ⟨_, _, exec_parse_of_eq (h.trans hc), rfl, rfl, rfl, hle, rfl, rfl⟩

/-- Settles O31, by whether `PARSE` ends the loop (`drain_stop`) or has consumed (`exec_drain_of_parse`). -/
theorem drainIsParseLoop : Obligations.DrainIsParseLoop := by
  intro s t r hx hres
  have hp := parse_eq_of_exec hx hres
  cases r with
  | needMoreData d =>
    show exec .drain s = _
    rw [exec_drain, drainStep, drain_stop (by rw [hp]; rfl), hp]
    rfl
  | frame ty c p => exact exec_drain_of_parse hp rfl
  | checksumError a b => exact exec_drain_of_parse hp rfl
  | shortLength l => exact exec_drain_of_parse hp rfl

/-- Settles O32: the events (`drain_events`), their number (`drain_events_length`), the state left (`quiescent_drain`) and
what `DRAIN` leaves alone (`drain_frame`), each by induction along the decode loop. -/
theorem drainEndsQuiescent : Obligations.DrainEndsQuiescent := by
  intro s
  obtain ⟨es, d, t, hdrain, hmore⟩ := drain_events s
  have hlen := drain_events_length s
  have hq := quiescent_drain s
  obtain ⟨hcap, hreq, hres, hbuf⟩ := drain_frame s
  rw [hdrain] at hlen hq hcap hreq hres hbuf
  refine ⟨t.deliver (.drain (es ++ [.needMoreEvt d])), es, d, ?_, ?_, hmore, ?_, hq, hbuf, hcap, hreq⟩
  · rw [exec_drain, drainStep, hdrain]
  · rw [deliver_results, hres]
  · simpa [Nat.mul_add] using hlen

/-- Settles O51: the three rows are the rows with a decoder. -/
theorem decodedRowsDeliverResult : Obligations.DecodedRowsDeliverResult :=
  fun l t p k _ hempty =>
    ⟨fun hwf => exec_decoderRow_of_wf (row := (0x06, .rxOutputState l t p k)) (.head _) hwf hempty,
      fun hwf => exec_decoderRow_of_wf (row := (0x07, .rxInputState l t p k)) (.tail _ (.head _)) hwf hempty,
      fun hwf => exec_decoderRow_of_wf (row := (0x02, .rxDeviceTime l t p k)) (.tail _ (.tail _ (.head _))) hwf hempty⟩

/-- Settles O52: the 23 rows are the rows without a decoder. -/
theorem undecodedRowsDeliverNoDecoder : Obligations.UndecodedRowsDeliverNoDecoder := by
  intro l t p k s hempty row hrow hwf
  have hrow : row ∈ noDecoderRows l t p k := hrow
  rw [exec_row_of_wf (c := 0) (List.mem_cons_of_mem _ (List.mem_append_right _ hrow)) hwf hempty, pdec_noDecoderRow hrow]

/-- Settles O53: a well-formed catch-all row carries an unnamed COMMAND, which `PDEC` does not find. -/
theorem unnamedRowDeliversUnknown : Obligations.UnnamedRowDeliversUnknown := by
  intro l t c p k s hempty hwf
  have hc : commandOfByte c = none := Option.isNone_iff_eq_none.mp (Bool.and_eq_true_iff.mp hwf).1
  have hunknown : pdec c p = .unknownCommand c := by rw [pdec, hc]
  rw [exec_row_of_wf (row := (c, .rxUnnamed l t c p k)) (.head _) hwf hempty, hunknown]

/-- Settles O54, by `receive_of_checksum_ne` at the row's COMMAND byte. -/
theorem rowsWithWrongChecksumDropped : Obligations.RowsWithWrongChecksumDropped := by
  intro l t c p k s hempty hlen row hrow hck
  rw [exec_rxFrameRow hrow, receive_of_checksum_ne hempty hlen hck]

/-- Settles O23, by `rxFits_of_capacity`. -/
theorem rxPushAppends : Obligations.RxPushAppends := by
  intro bs s hcap
  rw [exec_rxPush, pushStep_of_fits (rxFits_of_capacity hcap)]
  rfl

end Sys2Proof.Machine
end

section
/-! Proofs of the statements of 43_payload_decode.md: the switch map (R141, R142) and the clock (R143) that `PDEC` reads out
of a payload of the right length, the `DecodeError` of any other length, and the commands without a decoder (R144 to
R151). -/

namespace Sys2Proof

/-! ### The bits of a switch map and the year of a clock -/

theorem getLsbD_switchBits_of_lt (b0 b1 : Byte) {k : Nat} (hk : k < 8) :
    (switchBits b0 b1).getLsbD k = b0.getLsbD k := by
  rw [switchBits, BitVec.getLsbD_append, if_pos hk]

theorem getLsbD_switchBits_of_ge (b0 b1 : Byte) {k : Nat} (hk : 8 ≤ k) :
    (switchBits b0 b1).getLsbD k = b1.getLsbD (k - 8) := by
  rw [switchBits, BitVec.getLsbD_append, if_neg (Nat.not_lt.mpr hk)]

/-- Switches 1 to 8 are the bits of the first payload byte, switches 9 to 16 those of the second (R141, R154). -/
theorem switchBits_switches (b0 b1 : Byte) :
    (∀ i, 1 ≤ i → i ≤ 8 → (switchBits b0 b1).getLsbD (i - 1) = b0.getLsbD (i - 1)) ∧
    (∀ i, 9 ≤ i → i ≤ 16 → (switchBits b0 b1).getLsbD (i - 1) = b1.getLsbD (i - 9)) := by
  refine ⟨fun i hlo hhi => getLsbD_switchBits_of_lt b0 b1 (by omega), fun i hlo _ => ?_⟩
  rw [getLsbD_switchBits_of_ge b0 b1 (Nat.le_sub_one_of_lt hlo), Nat.sub_sub]

/-- 12 bits hold the year of every raw byte: no wrap (R143, R153). -/
theorem clockYear_toNat (raw : Byte) : (clockYear raw).toNat = raw.toNat + 2018 := by
  have hraw := raw.isLt
  rw [clockYear, BitVec.toNat_add, BitVec.toNat_setWidth, BitVec.toNat_ofNat, Config.yearBase]
  omega

end Sys2Proof

namespace Sys2Proof.Machine

/-! ### `PDEC` as an instruction -/

theorem exec_pdec_of_eq {c : Byte} {p : List Byte} {r : PdecResult} (h : pdec c p = r) (s : State) :
    exec (.pdec c p) s = .next { s with results := s.results ++ [.pdec r] } := by
  rw [← h]
  rfl

/-- `PDEC` looks the command up by its byte and decodes by the command it finds (R140). -/
@[simp] theorem pdec_byte (c : Command) (p : List Byte) : pdec c.byte p = pdecCommand c p := by
  rw [pdec, commandOfByte_byte]

/-- A command whose decoder takes exactly 2 bytes as a switch map: what R141 and R142 share. -/
theorem exec_pdec_switchMap {c : Command}
    (hc : ∀ p, pdecCommand c p =
      if p.length = 2 then .switchMap (switchBits (byteAt p 0) (byteAt p 1)) else .decodeError c.byte 2 p.length)
    (b0 b1 : Byte) (p : List Byte) (s : State) :
    (∃ v : BitVec 16,
      exec (.pdec c.byte [b0, b1]) s = .next { s with results := s.results ++ [.pdec (.switchMap v)] } ∧
      (∀ i, 1 ≤ i → i ≤ 8 → v.getLsbD (i - 1) = b0.getLsbD (i - 1)) ∧
      (∀ i, 9 ≤ i → i ≤ 16 → v.getLsbD (i - 1) = b1.getLsbD (i - 9))) ∧
    (p.length ≠ 2 →
      exec (.pdec c.byte p) s =
        .next { s with results := s.results ++ [.pdec (.decodeError c.byte 2 p.length)] }) := by
  refine ⟨⟨switchBits b0 b1, exec_pdec_of_eq ?_ s, switchBits_switches b0 b1⟩, fun hp => exec_pdec_of_eq ?_ s⟩
  · rw [pdec_byte, hc]
    rfl
  · rw [pdec_byte, hc, if_neg hp]

end Sys2Proof.Machine

namespace Sys2Proof

open Machine

/-! ### The statements -/

/-- Settles O37: OUTPUT_STATE decodes a switch map (`exec_pdec_switchMap`). -/
theorem pdecOutputState : Obligations.PdecOutputState :=
  exec_pdec_switchMap (c := .outputState) fun _ => rfl

/-- Settles O38: INPUT_STATE decodes a switch map (`exec_pdec_switchMap`). -/
theorem pdecInputState : Obligations.PdecInputState :=
  exec_pdec_switchMap (c := .inputState) fun _ => rfl

/-- Settles O39: the year is `clockYear` of the first byte, which does not wrap (`clockYear_toNat`). -/
theorem pdecDeviceTime : Obligations.PdecDeviceTime := by
  intro y mo d h mi se p s
  refine ⟨⟨clockYear y, clockYear_toNat y, exec_pdec_of_eq ?_ s⟩, fun hp => exec_pdec_of_eq ?_ s⟩
  · exact pdec_byte .deviceTime [y, mo, d, h, mi, se]
  · exact (pdec_byte .deviceTime p).trans (if_neg hp)

/-- Settles O40: the 23 bytes are the COMMAND bytes of the rows without a decoder. -/
theorem pdecNoDecoder : Obligations.PdecNoDecoder := by
  intro c hc p s
  have hrows : c ∈ (noDecoderRows 0 0 p 0).map Prod.fst := hc
  obtain ⟨row, hrow, rfl⟩ := List.mem_map.mp hrows
  exact exec_pdec_of_eq (pdec_noDecoderRow hrow) s

end Sys2Proof
end

section
/-! Proofs of the statements of 60_exceptions.md: what each operation answers the host and what it leaves of the host's
side, and every instruction completes (R182, R188). -/

namespace Sys2Proof.Machine

/-! ### What the host sees of an operation -/

/-- From `s` to `t` the host was given exactly these further answers; the capacity and the host's coming requests are as
they were (R6, R13, R182). -/
structure Answered (answers : List Completion) (s t : State) : Prop where
  rxcap : t.rxcap = s.rxcap
  requests : t.requests = s.requests
  results : t.results = s.results ++ answers

/-- Answers accumulate in the order in which they are given. -/
theorem Answered.trans {as bs : List Completion} {s t u : State} (h : Answered as s t) (h' : Answered bs t u) :
    Answered (as ++ bs) s u where
  rxcap := h'.rxcap.trans h.rxcap
  requests := h'.requests.trans h.requests
  results := by rw [h'.results, h.results, List.append_assoc]

/-- What leaves the host's side alone answers nothing. -/
theorem answered_nil {s t : State} (hcap : t.rxcap = s.rxcap) (hreq : t.requests = s.requests)
    (hres : t.results = s.results) : Answered [] s t :=
  ⟨hcap, hreq, hres.trans (List.append_nil _).symm⟩

theorem answered_deliver (c : Completion) (s : State) : Answered [c] s (s.deliver c) := ⟨rfl, rfl, rfl⟩

theorem answered_rxPush (bs : List Byte) (s : State) : Answered [] s (rxPush bs s).2 := by
  obtain ⟨-, h⟩ | ⟨-, h⟩ := rxPush_cases bs s
  · rw [h]; exact answered_nil rfl rfl rfl
  · rw [h]; exact answered_nil rfl rfl rfl

theorem answered_parse (s : State) : Answered [] s (parse s).2 := by
  obtain ⟨hcap, hreq, hres, -⟩ := parse_frame s
  exact answered_nil hcap hreq hres

theorem answered_drain (s : State) : Answered [] s (drain s).2 := by
  obtain ⟨hcap, hreq, hres, -⟩ := drain_frame s
  exact answered_nil hcap hreq hres

theorem answered_pushStep (bs : List Byte) (s : State) : Answered [(rxPush bs s).1] s (pushStep bs s) :=
  (answered_rxPush bs s).trans (answered_deliver _ _)

theorem answered_drainStep (s : State) : Answered [.drain (drain s).1] s (drainStep s) :=
  (answered_drain s).trans (answered_deliver _ _)

/-- A reception is answered twice, for its `RX_PUSH` and for its `DRAIN` (log 5). -/
theorem answered_receive (bs : List Byte) (s : State) :
    Answered [(rxPush bs s).1, .drain (drain (pushStep bs s)).1] s (receive bs s) :=
  (answered_pushStep bs s).trans (answered_drainStep _)

/-- Every kind of instruction completes with at least one answer (R188). -/
theorem exec_answered (i : Instr) (s : State) :
    ∃ t answer more, exec i s = .next t ∧ Answered (answer :: more) s t := by
  obtain ⟨c, hi⟩ | ⟨bs, rfl⟩ | rfl | rfl | rfl | ⟨bs, hi⟩ := exec_cases i
  · exact ⟨_, _, _, hi s, answered_deliver c s⟩
  · exact ⟨_, _, _, exec_rxPush bs s, answered_pushStep bs s⟩
  · exact ⟨_, _, _, exec_parse s, (answered_parse s).trans (answered_deliver _ _)⟩
  · exact ⟨_, _, _, exec_drain s, answered_drainStep s⟩
  · exact ⟨_, _, _, exec_reset s, ⟨rfl, rfl, rfl⟩⟩
  · exact ⟨_, _, _, hi s, answered_receive bs s⟩

/-! ### The statements -/

/-- Settles O46, by the kinds of instruction (`exec_answered`). -/
theorem everyInstructionCompletes : Obligations.EveryInstructionCompletes := by
  intro i s
  obtain ⟨t, answer, more, hx, h⟩ := exec_answered i s
  exact ⟨t, answer :: more, hx, h.rxcap, h.requests, h.results, List.cons_ne_nil answer more⟩

end Sys2Proof.Machine
end

section
/-! Proofs of the statements of 70_reset_and_hazards.md: a desynchronised codec stays so through every operation on its
buffer but `RESET`, and hands the host no frame (R203). -/

namespace Sys2Proof.Machine

theorem isBufferOp_cases {i : Instr} (h : i.isBufferOp = true) : (∃ bs, i = .rxPush bs) ∨ i = .parse ∨ i = .drain := by
  cases i with
  | rxPush bs => exact .inl ⟨bs, rfl⟩
  | parse => exact .inr (.inl rfl)
  | drain => exact .inr (.inr rfl)
  | _ => cases h

/-- A wrong head is a fact of the first bytes of the buffer, which bytes behind them do not mend (R116). -/
theorem desynced_of_rxbuf_append {s t : State} {more : List Byte} (h : Desynced s) (ht : t.rxbuf = s.rxbuf ++ more) :
    Desynced t := by
  rw [Desynced, WrongHead, ht]
  exact desynced_rxAppend more h

/-- `RX_PUSH` adds to the buffer at most, and its answer is never a frame (R110). -/
theorem pushStep_extends (bs : List Byte) (s : State) :
    ∃ answer more, (pushStep bs s).rxbuf = s.rxbuf ++ more ∧ (pushStep bs s).results = s.results ++ [answer] ∧
      answer.carriesFrame = false := by
  obtain ⟨-, h⟩ | ⟨-, h⟩ := rxPush_cases bs s
  · rw [pushStep, h]
    exact ⟨.ok, bs, rfl, rfl, rfl⟩
  · rw [pushStep, h]
    exact ⟨.rxOverflow _ _, [], (List.append_nil _).symm, rfl, rfl⟩

/-- From a desynchronised state one buffer operation adds to the buffer at most and answers without a frame: `PARSE` and
`DRAIN` only see the wrong head again (R203). -/
theorem exec_bufferOp_of_desynced {i : Instr} {s : State} (hi : i.isBufferOp = true) (hd : Desynced s) :
    ∃ t answer more, exec i s = .next t ∧ t.rxbuf = s.rxbuf ++ more ∧ t.results = s.results ++ [answer] ∧
      answer.carriesFrame = false := by
  obtain ⟨bs, rfl⟩ | rfl | rfl := isBufferOp_cases hi
  · obtain ⟨answer, more, h⟩ := pushStep_extends bs s
    exact ⟨_, answer, more, exec_rxPush bs s, h⟩
  · exact ⟨_, .parse (.needMoreData true), [], exec_parse_of_eq (parse_of_desynced hd), by simp, by simp, rfl⟩
  · exact ⟨_, .drain [.needMoreEvt true], [], by rw [exec_drain, drainStep, drain_of_desynced hd], by simp, by simp, rfl⟩

/-- Settles O36, by induction on the operations: each one leaves the wrong head in front (`exec_bufferOp_of_desynced`). -/
theorem desyncIsPermanent : Obligations.DesyncIsPermanent := by
  intro ops s hd hops
  induction ops generalizing s with
  | nil => exact ⟨s, [], [], rfl, hd, by simp, by simp, by simp⟩
  | cons i is ih =>
    obtain ⟨hi, his⟩ := List.forall_mem_cons.mp hops
    obtain ⟨t, answer, more, hx, hbuf, hres, hframe⟩ := exec_bufferOp_of_desynced hi hd
    obtain ⟨u, answers, more', hrun, hdu, hbuf', hres', hframes⟩ := ih t (desynced_of_rxbuf_append hd hbuf) his
    exact ⟨u, answer :: answers, more ++ more', by rw [runInstrs_cons_of_next _ hx, hrun], hdu,
      by rw [hbuf', hbuf, List.append_assoc], by simp [hres', hres], List.forall_mem_cons.mpr ⟨hframe, hframes⟩⟩

end Sys2Proof.Machine
end

section
/-! Proofs of the statements of 10_state.md: what an instruction answers and leaves in the buffer depends on the
buffer and its capacity alone (R13, R15), the read port of `STATUS` (R12, R16, R161), `RESET` (R160), the state after it (R20) and the
outcome codes (R170). -/

namespace Sys2Proof.Machine

/-! ### States that agree on buffer and capacity -/

/-- The two states may differ in flags, earlier answers and coming requests only. -/
structure SameBuffer (s u : State) : Prop where
  rxbuf : s.rxbuf = u.rxbuf
  rxcap : s.rxcap = u.rxcap

/-- One operation ran in two states: the same result, and buffers that still agree. -/
structure SameOutcome {ρ : Type} (x y : ρ × State) : Prop where
  result : x.1 = y.1
  left : SameBuffer x.2 y.2

section
variable {s u : State} (h : SameBuffer s u)
include h

theorem sameBuffer_setFlag (f : StatusFlag) : SameBuffer (s.setFlag f) (u.setFlag f) := ⟨h.rxbuf, h.rxcap⟩

theorem sameBuffer_rxConsume (k : Nat) : SameBuffer (s.rxConsume k) (u.rxConsume k) :=
  ⟨congrArg (List.drop k) h.rxbuf, h.rxcap⟩

theorem sameBuffer_rxAppend (bs : List Byte) : SameBuffer (s.rxAppend bs) (u.rxAppend bs) :=
  ⟨congrArg (· ++ bs) h.rxbuf, h.rxcap⟩

theorem sameBuffer_deliver (c d : Completion) : SameBuffer (s.deliver c) (u.deliver d) := ⟨h.rxbuf, h.rxcap⟩

theorem sameOutcome_rxPush (bs : List Byte) : SameOutcome (rxPush bs s) (rxPush bs u) := by
  have hlen : s.rxLen = u.rxLen := congrArg List.length h.rxbuf
  have hfits : s.rxFits bs = u.rxFits bs := by rw [State.rxFits, State.rxFits, hlen, h.rxcap]
  rw [rxPush, rxPush, hfits, hlen]
  split
  · exact ⟨rfl, sameBuffer_rxAppend h bs⟩
  · exact ⟨rfl, sameBuffer_setFlag h _⟩

/-- The outcome of a sliced frame is read off the frame (R111 steps 5 to 7). -/
theorem sameOutcome_checkFrame (f : List Byte) : SameOutcome (checkFrame f s) (checkFrame f u) := by
  simp only [checkFrame, raiseOutcome]
  split_ifs
  · exact ⟨rfl, sameBuffer_setFlag h _⟩
  · exact ⟨rfl, h⟩
  · exact ⟨rfl, sameBuffer_setFlag h _⟩

theorem quiescent_of_sameBuffer (hq : Quiescent s) : Quiescent u := by
  rwa [Quiescent, WrongHead, h.rxbuf] at hq

theorem desynced_iff_of_sameBuffer : Desynced s ↔ Desynced u := by
  rw [Desynced, WrongHead, h.rxbuf]

/-- `PARSE` decides by the buffer: to consume a declared frame, to wait, or a desync (R111, R113, R116). -/
theorem sameOutcome_parse : SameOutcome (parse s) (parse u) := by
  cases hmore : (parse s).1.isNeedMore with
  | false =>
    obtain ⟨f, rest, hf, hs⟩ := exists_declared_of_parse hmore
    rw [parse_of_declared hf hs, parse_of_declared hf (h.rxbuf ▸ hs)]
    exact sameOutcome_checkFrame (sameBuffer_rxConsume h _) f
  | true =>
    have hq : Quiescent s := quiescent_iff.mpr hmore
    by_cases hd : Desynced s
    · rw [parse_of_desynced hd, parse_of_desynced ((desynced_iff_of_sameBuffer h).mp hd)]
      exact ⟨rfl, sameBuffer_setFlag h _⟩
    · rw [parse_of_waiting hq hd,
        parse_of_waiting (quiescent_of_sameBuffer h hq) (mt (desynced_iff_of_sameBuffer h).mpr hd)]
      exact ⟨rfl, h⟩

end

/-- `DRAIN` decides by the buffer, as each of its `PARSE` does (R112). -/
theorem sameOutcome_drain {s u : State} (h : SameBuffer s u) : SameOutcome (drain s) (drain u) := by
  induction s using drain_induction generalizing u with
  | stop s hstop =>
    obtain ⟨hres, hleft⟩ := sameOutcome_parse h
    rw [drain_stop hstop, drain_stop (hres ▸ hstop), hres]
    exact ⟨rfl, hleft⟩
  | more s hmore ih =>
    obtain ⟨hres, hleft⟩ := sameOutcome_parse h
    obtain ⟨hevents, hend⟩ := ih hleft
    rw [drain_more hmore, drain_more (s := u) (hres ▸ hmore), hres, hevents]
    exact ⟨rfl, hend⟩

theorem sameBuffer_pushStep (bs : List Byte) {s u : State} (h : SameBuffer s u) :
    SameBuffer (pushStep bs s) (pushStep bs u) :=
  sameBuffer_deliver (sameOutcome_rxPush h bs).left _ _

theorem sameBuffer_drainStep {s u : State} (h : SameBuffer s u) : SameBuffer (drainStep s) (drainStep u) :=
  sameBuffer_deliver (sameOutcome_drain h).left _ _

/-- Every kind of instruction gives states that agree on the buffer the same answers, and they agree afterwards. -/
theorem exec_sameBuffer (i : Instr) {s u : State} (h : SameBuffer s u) :
    ∃ t v answers, exec i s = .next t ∧ exec i u = .next v ∧ SameBuffer t v ∧ Answered answers s t ∧
      Answered answers u v := by
  obtain ⟨c, hi⟩ | ⟨bs, rfl⟩ | rfl | rfl | rfl | ⟨bs, hi⟩ := exec_cases i
  · exact ⟨_, _, _, hi s, hi u, sameBuffer_deliver h c c, answered_deliver c s, answered_deliver c u⟩
  · exact ⟨_, _, _, exec_rxPush bs s, exec_rxPush bs u, sameBuffer_pushStep bs h, answered_pushStep bs s,
      (sameOutcome_rxPush h bs).result ▸ answered_pushStep bs u⟩
  · obtain ⟨hres, hleft⟩ := sameOutcome_parse h
    exact ⟨_, _, _, exec_parse s, exec_parse u, sameBuffer_deliver hleft _ _,
      (answered_parse s).trans (answered_deliver _ _), hres ▸ (answered_parse u).trans (answered_deliver _ _)⟩
  · exact ⟨_, _, _, exec_drain s, exec_drain u, sameBuffer_drainStep h, answered_drainStep s,
      (sameOutcome_drain h).result ▸ answered_drainStep u⟩
  · exact ⟨_, _, [.ok], exec_reset s, exec_reset u, ⟨rfl, h.rxcap⟩, ⟨rfl, rfl, rfl⟩, ⟨rfl, rfl, rfl⟩⟩
  · have hpush := sameBuffer_pushStep bs h
    refine ⟨_, _, _, hi s, hi u, sameBuffer_drainStep hpush, answered_receive bs s, ?_⟩
    rw [(sameOutcome_rxPush h bs).result, (sameOutcome_drain hpush).result]
    exact answered_receive bs u

/-! ### The read port of `STATUS` -/

/-- The read port shows bits 0 to 3 and masks the others (R12, R16). -/
theorem getLsbD_readStatus (s : State) (k : Nat) :
    s.readStatus.getLsbD k = (s.status.getLsbD k && decide (k < 4)) := by
  have hmask : (0x0F : BitVec 8) = (BitVec.allOnes 4).setWidth 8 := rfl
  rw [State.readStatus, hmask, BitVec.getLsbD_and, BitVec.getLsbD_setWidth, BitVec.getLsbD_allOnes]
  by_cases hk : k < 4
  · simp [hk, show k < 8 by omega]
  · simp [hk]

/-- Each flag is read at its own bit (R12, R161). -/
theorem getLsbD_readStatus_bit (s : State) (f : StatusFlag) : s.readStatus.getLsbD f.bit = s.flag f := by
  have hbit : f.bit < 4 := by cases f <;> decide
  rw [getLsbD_readStatus, decide_eq_true hbit, Bool.and_true, State.flag]

/-- With the reserved bits at 0 the mask changes nothing (log 8). -/
theorem readStatus_of_stateInv {s : State} (h : StateInv s) : s.readStatus = s.status := by
  obtain ⟨-, hreserved⟩ := h
  have hall : (0x0F : BitVec 8) ||| 0xF0 = BitVec.allOnes 8 := rfl
  calc s.readStatus = (s.status &&& 0x0F) ||| (s.status &&& 0xF0) := by
        rw [hreserved, State.readStatus]; exact BitVec.or_zero.symm
    _ = s.status &&& (0x0F ||| 0xF0) := BitVec.and_or_distrib_left.symm
    _ = s.status := by rw [hall, BitVec.and_allOnes]

/-! ### `PARSE` and `DRAIN` of an empty buffer -/

theorem drain_of_empty {s : State} (h : s.rxbuf = []) : drain s = ([.needMoreEvt false], s) := by
  have hp := parse_of_empty h
  rw [drain_stop (by rw [hp]; rfl), hp]
  rfl

/-! ### The statements -/

/-- Settles O48, by the kinds of instruction (`exec_sameBuffer`); `DRAIN` by induction along the decode loop. -/
theorem outcomeDependsOnBufferOnly : Obligations.OutcomeDependsOnBufferOnly := by
  intro i s u hbuf hcap
  obtain ⟨t, v, answers, ht, hv, hleft, hs, hu⟩ := exec_sameBuffer i ⟨hbuf, hcap⟩
  exact ⟨t, v, answers, ht, hv, hleft.rxbuf, hs.results, hu.results⟩

/-- Settles O42, by the meaning of `RESET`. -/
theorem resetOperation : Obligations.ResetOperation := exec_reset

/-- Settles O43: the reset state's buffer is empty, so `PARSE` and `DRAIN` wait. -/
theorem resetStateValues : Obligations.ResetStateValues := by
  refine ⟨⟨reset_rxbuf, reset_status⟩, exec_parse_of_eq (parse_of_empty reset_rxbuf), ?_⟩
  rw [exec_drain, drainStep, drain_of_empty reset_rxbuf]
  rfl

/-- Settles O45: every capacity admits an empty buffer. -/
theorem resetSatisfiesInvariant : Obligations.ResetSatisfiesInvariant := ⟨wf_reset, rfl⟩

/-- Settles O49, by the bits the mask leaves (`getLsbD_readStatus`). -/
theorem statusReadPort : Obligations.StatusReadPort := fun s =>
  ⟨fun k hk => by rw [getLsbD_readStatus, decide_eq_false (Nat.not_lt.mpr hk), Bool.and_false],
    getLsbD_readStatus_bit s .desync, getLsbD_readStatus_bit s .ckerr, getLsbD_readStatus_bit s .shortlen,
    getLsbD_readStatus_bit s .rxovf, readStatus_of_stateInv⟩

/-- Settles O50, by the table of codes. -/
theorem outcomeCodes : Obligations.OutcomeCodes := fun _ _ _ _ _ _ _ _ _ _ _ =>
  ⟨rfl, rfl, rfl, rfl, rfl, rfl, rfl, rfl, rfl, rfl, rfl, rfl, rfl, rfl, rfl, rfl⟩

end Sys2Proof.Machine
end

section
/-! Proofs of the statements of 30_encoding.md and 41_encode.md: the operation select (R65), words placed by their table bits
(R68), words that are no instruction (R95), and the frames the encoder emits for the `TXFRAME` rows and the host's queries. -/

namespace Sys2Proof

/-! ### The switches that two mask bytes name -/

theorem mem_maskSwitches {m0 m1 : Byte} {n : Nat} :
    n ∈ maskSwitches m0 m1 ↔ (1 ≤ n ∧ n ≤ 16) ∧ switchOn (switchBits m0 m1) n = true := by
  have hrange : n ∈ (List.range 16).map (· + 1) ↔ 1 ≤ n ∧ n ≤ 16 := by
    rw [List.mem_map]
    exact ⟨fun ⟨k, hk, hn⟩ => by have := List.mem_range.mp hk; omega,
      fun hn => ⟨n - 1, List.mem_range.mpr (by omega), by omega⟩⟩
  rw [maskSwitches, List.mem_filter, Config.nSwitch, hrange]

/-- The masks of the switches that two mask bytes name are these two bytes again (R61, R91). -/
theorem relayMask0_maskSwitches (m0 m1 : Byte) : relayMask0 (maskSwitches m0 m1) = m0 := by
  refine BitVec.eq_of_getLsbD_eq fun k hk => ?_
  rw [relayMask0, getLsbD_maskByte 1 _ hk, Bool.eq_iff_iff, decide_eq_true_iff, mem_maskSwitches, switchOn,
    Nat.add_sub_cancel_left, getLsbD_switchBits_of_lt m0 m1 hk]
  exact and_iff_right (by omega)

theorem relayMask1_maskSwitches (m0 m1 : Byte) : relayMask1 (maskSwitches m0 m1) = m1 := by
  refine BitVec.eq_of_getLsbD_eq fun k hk => ?_
  rw [relayMask1, getLsbD_maskByte 9 _ hk, Bool.eq_iff_iff, decide_eq_true_iff, mem_maskSwitches, switchOn,
    getLsbD_switchBits_of_ge m0 m1 (by omega), show 9 + k - 1 - 8 = k by omega]
  exact and_iff_right (by omega)

theorem relayPayload_maskSwitches (m0 m1 : Byte) (st : Bool) :
    relayPayload (maskSwitches m0 m1) st = [flagByte st, m0, m1] := by
  rw [relayPayload, relayMask0_maskSwitches, relayMask1_maskSwitches]

/-- The words of a `FRAME_RELAY` are the RELAY frame of the switches that its mask bytes name (R59; log 6). -/
theorem encode_frameRelay (c : Byte) (st : Bool) (m0 m1 : Byte) :
    encode (.frameRelay c st m0 m1) = .tx (relayFrame c (maskSwitches m0 m1) st) := by
  rw [encode, relayFrame, relayPayload_maskSwitches]

/-! ### The bits of a table row -/

theorem decodeTableWord_eq_some {nbits w : Nat} {i : Instr} (h : decodeTableWord nbits w = some i) :
    decode (wordRequest nbits w) = .ok i := by
  rw [decodeTableWord] at h
  cases hd : decode (wordRequest nbits w) with
  | ok j => rw [hd] at h; exact congrArg _ (Option.some.inj h)
  | error e => rw [hd] at h; cases h

end Sys2Proof

namespace Sys2Proof.Machine

theorem exec_frameRead (c : Byte) (p : List Byte) (s : State) : exec (.frameRead c p) s = exec (.encRead c p) s := rfl

theorem exec_frameRelay (c : Byte) (st : Bool) (m0 m1 : Byte) (s : State) :
    exec (.frameRelay c st m0 m1) s = .next (s.deliver (.bytes (relayFrame c (maskSwitches m0 m1) st))) := rfl

/-- A query of the host is a READ frame with no payload (R67). -/
theorem exec_encRead_nil {c : Byte} {f : List Byte} (hf : readFrame c [] = f) (s : State) :
    exec (.encRead c []) s = .next { s with results := s.results ++ [.bytes f] } := by
  rw [exec_encRead_of_le c (Nat.zero_le _), hf]
  rfl

/-! ### The statements -/

/-- Settles O20: the row's words are the RELAY frame of the switches its mask bytes name (`encode_frameRelay`). -/
theorem frameRelayEmitsItsWords : Obligations.FrameRelayEmitsItsWords :=
  fun c st m0 m1 s => ⟨_, encode_frameRelay c st m0 m1, wellFormedFrame_relayFrame .., exec_frameRelay c st m0 m1 s⟩

/-- Settles O19, by the two sides of `ENC_READ`'s bound. -/
theorem frameReadEmitsItsWords : Obligations.FrameReadEmitsItsWords :=
  fun c p s =>
    ⟨fun hp => ⟨readFrame c p, rfl, wellFormedFrame_readFrame c hp,
      (exec_frameRead c p s).trans (exec_encRead_of_le c hp s)⟩,
    fun hp => (exec_frameRead c p s).trans (exec_encRead_of_gt c hp s)⟩

/-- Settles O21: the READ frames of the three commands, evaluated. -/
theorem pseudoOperationFrames : Obligations.PseudoOperationFrames :=
  fun s => ⟨exec_encRead_nil (by decide) s, exec_encRead_nil (by decide) s, exec_encRead_nil (by decide) s⟩

/-- Settles O3, by the select table. -/
theorem selectNamesEightOperations : Obligations.SelectNamesEightOperations :=
  fun _ _ _ _ => ⟨rfl, rfl, rfl, rfl, rfl, rfl, rfl, rfl⟩

/-- Settles O6: the decoder, evaluated on the five words. -/
theorem sampleWordsDecode : Obligations.SampleWordsDecode :=
  ⟨by decide, by decide, by decide, by decide, by decide⟩

/-- Settles O8: the placed request is the turn the step takes, and the rest of the state is as it was. -/
theorem fetchedTableWordRuns : Obligations.FetchedTableWordRuns := by
  intro s nbits w i h
  have hturn : (s.withFetchWord nbits w).requests = .request (wordRequest nbits w) :: s.requests := rfl
  exact step_of_decoded hturn (decodeTableWord_eq_some h)

/-- Settles O11, by the step's equation at a request that does not decode. -/
theorem undecodableWords : Obligations.UndecodableWords := by
  refine fun s rest bytes e => ⟨fun hturn hd => ?_, fun hturn hd => step_of_undecoded hturn hd⟩
  rw [runInstrs_rxPush_drain]
  exact step_of_undecoded hturn hd

end Sys2Proof.Machine
end

section
/-! Proofs of the statements of 42_decode.md and 43_payload_decode.md that remain: `RX_PUSH` beyond the capacity (R110), a
LENGTH below 3 (R115), and `PDEC` of an unnamed command (R152). -/

namespace Sys2Proof

/-- The bytes of the named commands: 01 to 08, 0F to 1F, and FF (R55). -/
theorem byte_range (d : Command) :
    (1 ≤ d.byte.toNat ∧ d.byte.toNat ≤ 8) ∨ (15 ≤ d.byte.toNat ∧ d.byte.toNat ≤ 31) ∨ d.byte.toNat = 255 := by
  cases d <;> decide

theorem commandOfByte_of_unnamed {c : Byte}
    (h : c.toNat = 0 ∨ (9 ≤ c.toNat ∧ c.toNat ≤ 14) ∨ (32 ≤ c.toNat ∧ c.toNat ≤ 254)) : commandOfByte c = none := by
  refine (commandOfByte_cases c).resolve_right ?_
  rintro ⟨d, rfl⟩
  have := byte_range d
  omega

end Sys2Proof

namespace Sys2Proof.Machine

theorem rxFits_eq_false {bs : List Byte} {s : State} {e : Nat} (hcap : s.rxcap = .bounded e)
    (hlen : 258 + e < s.rxbuf.length + bs.length) : s.rxFits bs = false := by
  rw [State.rxFits, hcap, admits_bounded]
  exact decide_eq_false (Nat.not_le_of_lt hlen)

theorem pushStep_of_not_fits {bs : List Byte} {s : State} (h : s.rxFits bs = false) :
    pushStep bs s = (s.setFlag .rxovf).deliver (.rxOverflow s.rxbuf.length bs.length) := by
  obtain ⟨hfits, -⟩ | ⟨-, heq⟩ := rxPush_cases bs s
  · simp [h] at hfits
  · rw [pushStep, heq]

theorem checkFrame_of_short {f : List Byte} (h : (byteAt f 2).toNat < 3) (s : State) :
    checkFrame f s = (.shortLength (byteAt f 2), s.setFlag .shortlen) := by
  obtain ⟨-, heq⟩ | ⟨h3, -⟩ | ⟨h3, -⟩ := checkFrame_cases f s
  · exact heq
  · omega
  · omega

/-- HEAD, a LENGTH below 3 and the declared bytes are dropped, what follows them stays (R115). -/
theorem parse_of_short {s : State} {l : Byte} {body rest : List Byte} (hs : s.rxbuf = [0x6A, 0xA6, l] ++ body ++ rest)
    (hl : l.toNat < 3) (hlen : body.length = l.toNat) :
    parse s = (.shortLength l, State.setFlag .shortlen { s with rxbuf := rest }) := by
  have hf : DeclaredFrame ([0x6A, 0xA6, l] ++ body) := ⟨rfl, rfl, congrArg (· + 3) hlen⟩
  rw [parse_of_declared hf hs, checkFrame_of_short (f := [0x6A, 0xA6, l] ++ body) hl, State.rxConsume, hs, List.drop_left]
  rfl

/-! ### The statements -/

/-- Settles O28, by `parse_of_short`. -/
theorem parseShortLength : Obligations.ParseShortLength :=
  fun _ _ _ _ hs hl hlen => exec_parse_of_eq (parse_of_short hs hl hlen)

/-- Settles O41: none of the bytes is that of a named command, so the lookup finds none. -/
theorem pdecUnknownCommand : Obligations.PdecUnknownCommand :=
  fun _ _ s hc => exec_pdec_of_eq (by rw [pdec, commandOfByte_of_unnamed hc]) s

/-- Settles O24, by `rxFits_eq_false`. -/
theorem rxPushOverflow : Obligations.RxPushOverflow := by
  intro bs s e hcap hlen
  rw [exec_rxPush, pushStep_of_not_fits (rxFits_eq_false hcap hlen)]
  rfl

end Sys2Proof.Machine
end
